-- ==== Sys2Proof/Word.lean ====
section
/-! DEFINITION. The words of the DV6 MIDI protocol engine (00_scope.md R8, R10): bytes and bounded integers, and the
typed values its operations take and return: packets, status kinds, messages, tokens, results, and the raw operands
a caller hands to the command interface. Types only, beside the two bounds of a bounded integer. -/

namespace Sys2Proof

/-- A MIDI byte, 8 bits (R8). -/
abbrev Byte := BitVec 8

/-- A 4-bit bounded integer: a channel, a cable number, a framing code (R160, R107). -/
abbrev U4 := BitVec 4

/-- A 7-bit bounded integer: a MIDI data field (R160). -/
abbrev U7 := BitVec 7

/-- A 14-bit bounded integer: the pitch-bend value (R160). -/
abbrev U14 := BitVec 14

/-- The widths N of a bounded integer UN: 4, 6, 7, 14 (R160). -/
inductive Width where
  | w4 | w6 | w7 | w14
  deriving DecidableEq, Repr

/-- The number of bits N of a width (R160). -/
def Width.bits : Width → Nat
  | .w4 => 4
  | .w6 => 6
  | .w7 => 7
  | .w14 => 14

/-- `MAX_N`, the greatest value of UN: 15, 63, 127, 16383 (R160). -/
def Width.max : Width → Nat
  | .w4 => 15
  | .w6 => 63
  | .w7 => 127
  | .w14 => 16383

/-- The USB-MIDI packet: cable, framing code and three payload bytes (R107). -/
structure Packet where
  cable : U4
  cin : U4
  b0 : Byte
  b1 : Byte
  b2 : Byte
  deriving DecidableEq, Repr

/-- The 22 status kinds of the status table (R102). -/
inductive StatusKind where
  | noteOff | noteOn | notePressure | controlChange | programChange | channelPressure | pitchBend
  | sysexStart | timeCodeQuarterFrame | songPositionPointer | songSelect | undefinedF4 | undefinedF5 | tuneRequest
  | timingClock | measureEnd | start | continue_ | stop | undefinedFD | activeSensing | systemReset
  deriving DecidableEq, Repr

/-- The names of the 25 message variants, without their fields (R280). -/
inductive Variant where
  | noteOff | noteOn | notePressure | controlChange | programChange | channelPressure | pitchBend
  | timeCodeQuarterFrame | songPositionPointer | songSelect | tuneRequest
  | timingClock | measureEnd | start | continue_ | stop | activeSensing | systemReset
  | sysexBegin | sysexCont | sysexEnd | sysexEnd1 | sysexEnd2 | sysexEmpty | sysexSingleByte
  deriving DecidableEq, Repr

/-- `MidiMessage`, the tagged union of 25 variants (R280). -/
inductive Message where
  | noteOff (ch : U4) (note velocity : U7)
  | noteOn (ch : U4) (note velocity : U7)
  | notePressure (ch : U4) (note pressure : U7)
  | controlChange (ch : U4) (control value : U7)
  | programChange (ch : U4) (program : U7)
  | channelPressure (ch : U4) (pressure : U7)
  | pitchBend (ch : U4) (value : U14)
  | timeCodeQuarterFrame (value : U7)
  | songPositionPointer (lsb msb : U7)
  | songSelect (song : U7)
  | tuneRequest
  | timingClock
  | measureEnd
  | start
  | continue_
  | stop
  | activeSensing
  | systemReset
  | sysexBegin (d0 d1 : U7)
  | sysexCont (d0 d1 d2 : U7)
  | sysexEnd
  | sysexEnd1 (d0 : U7)
  | sysexEnd2 (d0 d1 : U7)
  | sysexEmpty
  | sysexSingleByte (d0 : U7)
  deriving DecidableEq, Repr

/-- A `Cap` token's field type: `Bytes(w)` is the only one (R115). `other` stands for any field type the spec does not
name, so that a program that uses one can be handed over and refused (R116). -/
inductive FieldType where
  | bytes (w : Nat)
  | other (tag : Nat)
  deriving DecidableEq, Repr

/-- The four token forms (R115), over the type of a literal. -/
inductive TokenOf (α : Type) where
  | skip (n : Nat)
  | val (b : α)
  | seq (bs : List α)
  | cap (f : FieldType)
  deriving DecidableEq, Repr

/-- A token whose literals are bytes. -/
abbrev Token := TokenOf Byte

/-- A capture record: where a `Cap` token's field starts in the matched buffer, and its declared width (R370). -/
structure CaptureRecord where
  offset : Nat
  width : Nat
  deriving DecidableEq, Repr

/-- What CAPTURE_STEP answers when it raises no error (R340). -/
inductive CaptureResult where
  | pending
  | captured (n : Nat)
  | notSysex
  deriving DecidableEq, Repr

/-- The eleven error kinds with what each carries (R400). -/
inductive ErrorKind where
  | invalidStatus (b : Byte)
  | badPacket (p : Packet)
  | invalidChannel (e : Nat)
  | invalidValue (n : Width) (operands : List Nat)
  | invalidCode (x : Nat)
  | invalidCable (x : Nat)
  | sysexOutOfBounds
  | bufferOverflow
  | spuriousSysexContinuation
  | spuriousSysexEnd (b : Option Byte)
  | noMatch
  deriving DecidableEq, Repr

/-- The value an operation that ends with `ok` returns, one form per result type of R117. -/
inductive Value where
  | unit
  | bool (b : Bool)
  | nat (n : Nat)
  | optNat (o : Option Nat)
  | pair (msb lsb : U7)
  | packet (p : Packet)
  | optPacket (o : Option Packet)
  | bytes (bs : List Byte)
  | status (k : StatusKind)
  | message (m : Message)
  | messages (ms : List Message)
  | capture (r : CaptureResult)
  | records (rs : List CaptureRecord)
  deriving DecidableEq, Repr

/-- The result of an operation: `ok(v)` or `err E(info)` (R12, R401). -/
inductive OpResult where
  | ok (v : Value)
  | err (e : ErrorKind)
  deriving DecidableEq, Repr

/-- The form of `PU.state` without its contents: it selects the table's row for a data byte and for 0xF7 (R240). -/
inductive ParserMode where
  | idle | awaitingData | inSysex
  deriving DecidableEq, Repr

/-- An operand as the caller hands it over, before its type is checked (R409): numbers are naturals of any size. -/
inductive Operand where
  | nat (n : Nat)
  | bytes (bs : List Nat)
  | packet (cable cin b0 b1 b2 : Nat)
  | status (k : StatusKind)
  | message (v : Variant) (fields : List Nat)
  | program (ts : List (TokenOf Nat))
  deriving DecidableEq, Repr

/-- What the caller puts on one of the block's three inputs: an operation code with its operand values on the command
interface (R117), one byte on the serial input (R240), or the four bytes of a USB-MIDI record (R70). -/
inductive Input where
  | command (code : Byte) (operands : List Operand)
  | serial (b : Byte)
  | usb (w0 w1 w2 w3 : Byte)
  deriving DecidableEq, Repr

/-- What the caller does next: it issues one operation; it issues two with no order between them (R81, R443); or it
writes the capture buffer's storage itself (R84, R443). -/
inductive Event where
  | issue (x : Input)
  | unordered (x y : Input)
  | callerWrite (i : Nat) (v : Byte)
  deriving DecidableEq, Repr

/-- The units of the block (R2). -/
inductive UnitId where
  | bi | pk | st | rc | pu | cd | sc | tg | tm
  deriving DecidableEq, Repr

end Sys2Proof
end

