-- ==== Sys2Proof/Config.lean ====
section
/-! DEFINITION. The parameters the spec leaves open (00_scope.md R9). They are fixed when an instance is built and no
operation writes them (R40); State carries them, so a statement about every state is a statement about every choice. -/

namespace Sys2Proof

/-- `DECODE_DATA_POLICY`: what DECODE does with a byte of 0x80 or more in a 7-bit data position (R9, R283). -/
inductive DataPolicy where
  | reject
  | cull
  deriving DecidableEq, Repr

/-- The four parameters (R9). -/
structure Params where
  captureCapacity : Nat
  parserCable : U4
  decodeDataPolicy : DataPolicy
  sysCommonRunningStatus : Bool
  deriving DecidableEq, Repr

/-- The values R9's table names as the defaults of the test vectors. DESIGN CHOICE for the capacity, which the spec
leaves OPEN (notes/assumptions/4.md, unsafe for a claim that rests on the number). -/
def Params.default : Params :=
  { captureCapacity := 64, parserCable := 0, decodeDataPolicy := .reject, sysCommonRunningStatus := true }

end Sys2Proof
end

