-- ==== Sys2Proof/Syntax.lean ====
section
/-! DEFINITION. The instructions: one constructor per row of spec/opcode_table.json. First the 38 operations of the
command interface (30_encoding.md R117) with their typed operands; then the 27 byte classes of the serial input
(43_parser.md R240) with the bits their row leaves free; then the 25 packet patterns of the USB input (R112) with the
bits theirs leaves free. -/

namespace Sys2Proof

/-- One constructor per row of spec/opcode_table.json, in the table's order. -/
inductive Instr where
  -- BI
  | cull (n : Width) (wide : Nat)
  | fill (n : Width) (wide : Nat)
  | fromDirect (n : Width) (wide : Nat)
  | toWide (n : Width) (v : Nat)
  | u14FromPair (msb lsb : Byte)
  | u14ToPair (v : U14)
  | channelFromExternal (e : Nat)
  | channelToExternal (c : U4)
  | cableFromInt (x : Nat)
  | cinFromInt (x : Nat)
  -- PK
  | packetMake (cable cin : U4) (bytes : List Byte)
  | packetFromWire (w0 w1 w2 w3 : Byte)
  | packetToWire (p : Packet)
  | payloadLen (cin : U4)
  | packetPayload (p : Packet)
  -- ST
  | isData (b : Byte)
  | isStatus (b : Byte)
  | isChannelVoice (b : Byte)
  | isRealtime (b : Byte)
  | classify (b : Byte)
  | expectedLen (k : StatusKind)
  | channelOf (b : Byte)
  -- RC
  | rcPack (payload : List Byte)
  | rcSerialize (p : Packet)
  | rcReset
  -- PU
  | parseByte (b : Byte)
  | parserReset
  -- CD
  | encodeMessage (cable : U4) (m : Message)
  | decodePacket (p : Packet)
  -- SC
  | captureStep (m : Message)
  | captureRead
  | captureClear
  -- TG, TM
  | tokenFlatten (program : List Token)
  | tokenFrame (d : List Byte)
  | genStart (program : List Token) (cable : U4)
  | genNext
  | genRestart
  | matchProgram (buf : List Byte) (program : List Token)
  -- the byte classes of the serial input
  | byteNoteOff (ch : U4)
  | byteNoteOn (ch : U4)
  | byteNotePressure (ch : U4)
  | byteControlChange (ch : U4)
  | byteProgramChange (ch : U4)
  | byteChannelPressure (ch : U4)
  | bytePitchBend (ch : U4)
  | byteSysexStart
  | byteTimeCodeQuarterFrame
  | byteSongPositionPointer
  | byteSongSelect
  | byteUndefinedF4
  | byteUndefinedF5
  | byteTuneRequest
  | byteSysexEndInSysex
  | byteSysexEndSpurious
  | byteTimingClock
  | byteMeasureEnd
  | byteStart
  | byteContinue
  | byteStop
  | byteUndefinedFD
  | byteActiveSensing
  | byteSystemReset
  | byteDataIdle (v : U7)
  | byteDataAwaitingData (v : U7)
  | byteDataInSysex (v : U7)
  -- the packet patterns of the USB input
  | pktNoteOff (cable ch : U4) (b1 b2 : Byte)
  | pktNoteOn (cable ch : U4) (b1 b2 : Byte)
  | pktNotePressure (cable ch : U4) (b1 b2 : Byte)
  | pktControlChange (cable ch : U4) (b1 b2 : Byte)
  | pktProgramChange (cable ch : U4) (b1 b2 : Byte)
  | pktChannelPressure (cable ch : U4) (b1 b2 : Byte)
  | pktPitchBend (cable ch : U4) (b1 b2 : Byte)
  | pktTimeCodeQuarterFrame (cable : U4) (b1 b2 : Byte)
  | pktSongSelect (cable : U4) (b1 b2 : Byte)
  | pktSongPositionPointer (cable : U4) (b1 b2 : Byte)
  | pktSysexBegin (cable : U4) (b1 b2 : Byte)
  | pktSysexCont (cable : U4) (d0 : U7) (b1 b2 : Byte)
  | pktTuneRequest (cable : U4) (b1 b2 : Byte)
  | pktSysexEnd (cable : U4) (b1 b2 : Byte)
  | pktSysexEmpty (cable : U4) (b2 : Byte)
  | pktSysexEnd1 (cable : U4) (d0 : U7) (b2 : Byte)
  | pktSysexSingleByte (cable : U4) (b1 : Byte)
  | pktSysexEnd2 (cable : U4) (d0 : U7) (b1 : Byte)
  | pktTimingClock (cable : U4) (b1 b2 : Byte)
  | pktMeasureEnd (cable : U4) (b1 b2 : Byte)
  | pktStart (cable : U4) (b1 b2 : Byte)
  | pktContinue (cable : U4) (b1 b2 : Byte)
  | pktStop (cable : U4) (b1 b2 : Byte)
  | pktActiveSensing (cable : U4) (b1 b2 : Byte)
  | pktSystemReset (cable : U4) (b1 b2 : Byte)
  deriving DecidableEq, Repr

end Sys2Proof
end

