-- ==== Sys2Proof/WellFormed.lean ====
section
/-! DEFINITION. Which instructions are well-formed: the operand checks of 60_exceptions.md R409 that an instruction's
types do not already make. An instruction that is not well-formed is refused by its meaning. -/

namespace Sys2Proof

/-- A sysex body byte is below 0x80 (R116, R372). -/
def isBodyByte (b : Byte) : Bool := b.toNat < 0x80

/-- One token is well-formed: literals at most 0x7F and the field type `Bytes(w)` (R116). -/
def tokenWellFormed : Token → Bool
  | .skip _ => true
  | .val b => isBodyByte b
  | .seq bs => bs.all isBodyByte
  | .cap (.bytes _) => true
  | .cap (.other _) => false

/-- A token program is well-formed iff each of its tokens is (R116). -/
def programWellFormed (program : List Token) : Bool := program.all tokenWellFormed

/-- The operand checks of R409 on a whole instruction: TO_WIDE's operand is of type UN (R160, R164), PACKET_MAKE takes at
most 3 bytes (R190), RC_PACK takes 1 to 3 (R216), TOKEN_FRAME takes body bytes (R372), and a token program is
well-formed (R116). -/
def Instr.wellFormed : Instr → Bool
  | .toWide n v => decide (v ≤ n.max)
  | .packetMake _ _ bytes => decide (bytes.length ≤ 3)
  | .rcPack payload => decide (1 ≤ payload.length ∧ payload.length ≤ 3)
  | .tokenFlatten program => programWellFormed program
  | .tokenFrame d => d.all isBodyByte
  | .genStart program _ => programWellFormed program
  | .matchProgram _ program => programWellFormed program
  | _ => true

end Sys2Proof
end

