-- ==== Sys2Proof/Decode.lean ====
section
/-! DEFINITION. Decoding and encoding. The command interface's operation codes (30_encoding.md R117) with the operand
types of R409, the byte classes of the serial input (R240) and the packet patterns of the USB input (R112); then the
encoder, written from the same tables; then the two fixed names over the bits of spec/opcode_table.json. -/

namespace Sys2Proof

/-- Why an input is no instruction. -/
inductive DecodeError where
  /-- R117, R119: an operation code that is not assigned. -/
  | unassignedCode (code : Byte)
  /-- R409: an operand that is missing, of another kind, or outside its declared type. -/
  | operandType (code : Byte)
  deriving DecidableEq, Repr

/-! ### Operand values (R409) -/

/-- A natural as a field of `w` bits, where it fits. -/
def narrow? (w n : Nat) : Option (BitVec w) :=
  if n < 2 ^ w then some (BitVec.ofNat w n) else none

/-- A list of naturals as bytes, where each fits. -/
def bytes? : List Nat → Option (List Byte)
  | [] => some []
  | n :: ns =>
    match narrow? 8 n, bytes? ns with
    | some b, some bs => some (b :: bs)
    | _, _ => none

/-- The width N of a bounded integer, one of 4, 6, 7, 14 (R160). -/
def width? : Nat → Option Width
  | 4 => some .w4
  | 6 => some .w6
  | 7 => some .w7
  | 14 => some .w14
  | _ => none

/-- A packet from its five fields (R107). -/
def packet? (cable cin b0 b1 b2 : Nat) : Option Packet :=
  match narrow? 4 cable, narrow? 4 cin, narrow? 8 b0, narrow? 8 b1, narrow? 8 b2 with
  | some cable, some cin, some b0, some b1, some b2 => some { cable, cin, b0, b1, b2 }
  | _, _, _, _, _ => none

/-- A token with its literals as bytes (R115). -/
def token? : TokenOf Nat → Option Token
  | .skip n => some (.skip n)
  | .val n => (narrow? 8 n).map .val
  | .seq ns => (bytes? ns).map .seq
  | .cap f => some (.cap f)

/-- A token program with its literals as bytes (R115). -/
def program? : List (TokenOf Nat) → Option (List Token)
  | [] => some []
  | t :: ts =>
    match token? t, program? ts with
    | some t, some ts => some (t :: ts)
    | _, _ => none

/-- A message with one 7-bit field (R280). -/
def oneField (f : U7 → Message) : List Nat → Option Message
  | [a] => (narrow? 7 a).map f
  | _ => none

/-- A message with two 7-bit fields (R280). -/
def twoFields (f : U7 → U7 → Message) : List Nat → Option Message
  | [a, b] =>
    match narrow? 7 a, narrow? 7 b with
    | some a, some b => some (f a b)
    | _, _ => none
  | _ => none

/-- A message with three 7-bit fields (R280). -/
def threeFields (f : U7 → U7 → U7 → Message) : List Nat → Option Message
  | [a, b, c] =>
    match narrow? 7 a, narrow? 7 b, narrow? 7 c with
    | some a, some b, some c => some (f a b c)
    | _, _, _ => none
  | _ => none

/-- A channel message with one field of `w` bits after the channel (R280). -/
def channelField (w : Nat) (f : U4 → BitVec w → Message) : List Nat → Option Message
  | [ch, a] =>
    match narrow? 4 ch, narrow? w a with
    | some ch, some a => some (f ch a)
    | _, _ => none
  | _ => none

/-- A channel message with two 7-bit fields after the channel (R280). -/
def channelFields (f : U4 → U7 → U7 → Message) : List Nat → Option Message
  | [ch, a, b] =>
    match narrow? 4 ch, narrow? 7 a, narrow? 7 b with
    | some ch, some a, some b => some (f ch a b)
    | _, _, _ => none
  | _ => none

/-- A message without fields (R280). -/
def noField (m : Message) : List Nat → Option Message
  | [] => some m
  | _ => none

/-- A message from its variant and its fields in the order of R110, where each field is in its type (R280, R409). -/
def message? : Variant → List Nat → Option Message
  | .noteOff => channelFields .noteOff
  | .noteOn => channelFields .noteOn
  | .notePressure => channelFields .notePressure
  | .controlChange => channelFields .controlChange
  | .programChange => channelField 7 .programChange
  | .channelPressure => channelField 7 .channelPressure
  | .pitchBend => channelField 14 .pitchBend
  | .timeCodeQuarterFrame => oneField .timeCodeQuarterFrame
  | .songPositionPointer => twoFields .songPositionPointer
  | .songSelect => oneField .songSelect
  | .tuneRequest => noField .tuneRequest
  | .timingClock => noField .timingClock
  | .measureEnd => noField .measureEnd
  | .start => noField .start
  | .continue_ => noField .continue_
  | .stop => noField .stop
  | .activeSensing => noField .activeSensing
  | .systemReset => noField .systemReset
  | .sysexBegin => twoFields .sysexBegin
  | .sysexCont => threeFields .sysexCont
  | .sysexEnd => noField .sysexEnd
  | .sysexEnd1 => oneField .sysexEnd1
  | .sysexEnd2 => twoFields .sysexEnd2
  | .sysexEmpty => noField .sysexEmpty
  | .sysexSingleByte => oneField .sysexSingleByte

/-! ### The operation codes (R117) -/

/-- Operands `N, wide` (R161 to R164). -/
def widthNat (f : Width → Nat → Instr) : List Operand → Option Instr
  | [.nat n, .nat v] => (width? n).map fun n => f n v
  | _ => none

/-- One natural operand of any size (R167, R170, R171). -/
def oneNat (f : Nat → Instr) : List Operand → Option Instr
  | [.nat n] => some (f n)
  | _ => none

/-- One operand of `w` bits. -/
def oneWord (w : Nat) (f : BitVec w → Instr) : List Operand → Option Instr
  | [.nat n] => (narrow? w n).map f
  | _ => none

/-- Two byte operands, msb before lsb (R165). -/
def twoBytes (f : Byte → Byte → Instr) : List Operand → Option Instr
  | [.nat a, .nat b] =>
    match narrow? 8 a, narrow? 8 b with
    | some a, some b => some (f a b)
    | _, _ => none
  | _ => none

/-- Four byte operands in wire order (R191). -/
def fourBytes (f : Byte → Byte → Byte → Byte → Instr) : List Operand → Option Instr
  | [.nat a, .nat b, .nat c, .nat d] =>
    match narrow? 8 a, narrow? 8 b, narrow? 8 c, narrow? 8 d with
    | some a, some b, some c, some d => some (f a b c d)
    | _, _, _, _ => none
  | _ => none

/-- Operands cable, framing code, byte list (R190). -/
def cableCinBytes (f : U4 → U4 → List Byte → Instr) : List Operand → Option Instr
  | [.nat cable, .nat cin, .bytes bs] =>
    match narrow? 4 cable, narrow? 4 cin, bytes? bs with
    | some cable, some cin, some bs => some (f cable cin bs)
    | _, _, _ => none
  | _ => none

/-- One packet operand. -/
def onePacket (f : Packet → Instr) : List Operand → Option Instr
  | [.packet cable cin b0 b1 b2] => (packet? cable cin b0 b1 b2).map f
  | _ => none

/-- One Status-kind operand (R214). -/
def oneStatus (f : StatusKind → Instr) : List Operand → Option Instr
  | [.status k] => some (f k)
  | _ => none

/-- One byte-list operand. -/
def oneBytes (f : List Byte → Instr) : List Operand → Option Instr
  | [.bytes bs] => (bytes? bs).map f
  | _ => none

/-- One message operand (R340). -/
def oneMessage (f : Message → Instr) : List Operand → Option Instr
  | [.message v fields] => (message? v fields).map f
  | _ => none

/-- Operands cable, message (R281). -/
def cableMessage (f : U4 → Message → Instr) : List Operand → Option Instr
  | [.nat cable, .message v fields] =>
    match narrow? 4 cable, message? v fields with
    | some cable, some m => some (f cable m)
    | _, _ => none
  | _ => none

/-- One token-program operand (R371). -/
def oneProgram (f : List Token → Instr) : List Operand → Option Instr
  | [.program ts] => (program? ts).map f
  | _ => none

/-- Operands program, cable (R373). -/
def programCable (f : List Token → U4 → Instr) : List Operand → Option Instr
  | [.program ts, .nat cable] =>
    match program? ts, narrow? 4 cable with
    | some ts, some cable => some (f ts cable)
    | _, _ => none
  | _ => none

/-- Operands byte list, program (R376). -/
def bytesProgram (f : List Byte → List Token → Instr) : List Operand → Option Instr
  | [.bytes bs, .program ts] =>
    match bytes? bs, program? ts with
    | some bs, some ts => some (f bs ts)
    | _, _ => none
  | _ => none

/-- No operands. -/
def noOperand (i : Instr) : List Operand → Option Instr
  | [] => some i
  | _ => none

/-- The table of R117: how each assigned code reads its operands; `none` for an unassigned code. -/
def operation? (code : Nat) : Option (List Operand → Option Instr) :=
  match code with
  | 0x01 => some (widthNat .cull)
  | 0x02 => some (widthNat .fill)
  | 0x03 => some (widthNat .fromDirect)
  | 0x04 => some (widthNat .toWide)
  | 0x05 => some (twoBytes .u14FromPair)
  | 0x06 => some (oneWord 14 .u14ToPair)
  | 0x07 => some (oneNat .channelFromExternal)
  | 0x08 => some (oneWord 4 .channelToExternal)
  | 0x09 => some (oneNat .cableFromInt)
  | 0x0A => some (oneNat .cinFromInt)
  | 0x10 => some (cableCinBytes .packetMake)
  | 0x11 => some (fourBytes .packetFromWire)
  | 0x12 => some (onePacket .packetToWire)
  | 0x13 => some (oneWord 4 .payloadLen)
  | 0x14 => some (onePacket .packetPayload)
  | 0x20 => some (oneWord 8 .isData)
  | 0x21 => some (oneWord 8 .isStatus)
  | 0x22 => some (oneWord 8 .isChannelVoice)
  | 0x23 => some (oneWord 8 .isRealtime)
  | 0x24 => some (oneWord 8 .classify)
  | 0x25 => some (oneStatus .expectedLen)
  | 0x26 => some (oneWord 8 .channelOf)
  | 0x30 => some (oneBytes .rcPack)
  | 0x31 => some (onePacket .rcSerialize)
  | 0x32 => some (noOperand .rcReset)
  | 0x40 => some (oneWord 8 .parseByte)
  | 0x41 => some (noOperand .parserReset)
  | 0x50 => some (cableMessage .encodeMessage)
  | 0x51 => some (onePacket .decodePacket)
  | 0x60 => some (oneMessage .captureStep)
  | 0x61 => some (noOperand .captureRead)
  | 0x62 => some (noOperand .captureClear)
  | 0x70 => some (oneProgram .tokenFlatten)
  | 0x71 => some (oneBytes .tokenFrame)
  | 0x72 => some (programCable .genStart)
  | 0x73 => some (noOperand .genNext)
  | 0x74 => some (noOperand .genRestart)
  | 0x75 => some (bytesProgram .matchProgram)
  | _ => none

/-- An operation code with its operands (R117, R119, R409). -/
def decodeCommand (code : Byte) (operands : List Operand) : Except DecodeError Instr :=
  match operation? code.toNat with
  | none => .error (.unassignedCode code)
  | some read =>
    match read operands with
    | none => .error (.operandType code)
    | some i => .ok i

/-! ### The byte classes (R240) -/

/-- The class of a status-shaped byte 0xF0 to 0xFF, by its low nibble (R240 and the status table R102); 0xF7 by the
parser's form (R243, R244). -/
def decodeSystemByte (mode : ParserMode) (low : Nat) : Instr :=
  match low with
  | 0x0 => .byteSysexStart
  | 0x1 => .byteTimeCodeQuarterFrame
  | 0x2 => .byteSongPositionPointer
  | 0x3 => .byteSongSelect
  | 0x4 => .byteUndefinedF4
  | 0x5 => .byteUndefinedF5
  | 0x6 => .byteTuneRequest
  | 0x7 => if mode = .inSysex then .byteSysexEndInSysex else .byteSysexEndSpurious
  | 0x8 => .byteTimingClock
  | 0x9 => .byteMeasureEnd
  | 0xA => .byteStart
  | 0xB => .byteContinue
  | 0xC => .byteStop
  | 0xD => .byteUndefinedFD
  | 0xE => .byteActiveSensing
  | _ => .byteSystemReset

/-- The class of a data byte, by the parser's form (R240). -/
def decodeDataByte (mode : ParserMode) (v : U7) : Instr :=
  match mode with
  | .idle => .byteDataIdle v
  | .awaitingData => .byteDataAwaitingData v
  | .inSysex => .byteDataInSysex v

/-- The byte class of a serial byte in a parser form (R240): total, since R254's rows cover every byte. -/
def decodeSerial (mode : ParserMode) (b : Byte) : Instr :=
  let low : U4 := b.extractLsb' 0 4
  match (b.extractLsb' 4 4).toNat with
  | 0x8 => .byteNoteOff low
  | 0x9 => .byteNoteOn low
  | 0xA => .byteNotePressure low
  | 0xB => .byteControlChange low
  | 0xC => .byteProgramChange low
  | 0xD => .byteChannelPressure low
  | 0xE => .bytePitchBend low
  | 0xF => decodeSystemByte mode low.toNat
  | _ => decodeDataByte mode (b.extractLsb' 0 7)

/-! ### The packet patterns (R112) -/

/-- The real-time packets, by b0 (R112). -/
def decodeRealtimePacket (cable : U4) (b0 b1 b2 : Byte) (otherwise : Instr) : Instr :=
  match b0.toNat with
  | 0xF8 => .pktTimingClock cable b1 b2
  | 0xF9 => .pktMeasureEnd cable b1 b2
  | 0xFA => .pktStart cable b1 b2
  | 0xFB => .pktContinue cable b1 b2
  | 0xFC => .pktStop cable b1 b2
  | 0xFE => .pktActiveSensing cable b1 b2
  | 0xFF => .pktSystemReset cable b1 b2
  | _ => otherwise

/-- The channel-voice packets, by framing code, where the kind nibble agrees (R112). -/
def decodeVoicePacket (cable cin : U4) (b0 b1 b2 : Byte) (otherwise : Instr) : Instr :=
  let ch : U4 := b0.extractLsb' 0 4
  if b0.extractLsb' 4 4 = cin then
    match cin.toNat with
    | 0x8 => .pktNoteOff cable ch b1 b2
    | 0x9 => .pktNoteOn cable ch b1 b2
    | 0xA => .pktNotePressure cable ch b1 b2
    | 0xB => .pktControlChange cable ch b1 b2
    | 0xC => .pktProgramChange cable ch b1 b2
    | 0xD => .pktChannelPressure cable ch b1 b2
    | 0xE => .pktPitchBend cable ch b1 b2
    | _ => otherwise
  else otherwise

/-- The row of R112 a packet matches. A packet no row matches is still the operand of DECODE, which answers
`BadPacket` (R282, R309), so it decodes to that operation. -/
def decodeRecord (p : Packet) : Instr :=
  let d0 : U7 := p.b0.extractLsb' 0 7
  match p.cin.toNat with
  | 0x2 =>
    if p.b0 = 0xF1 then .pktTimeCodeQuarterFrame p.cable p.b1 p.b2
    else if p.b0 = 0xF3 then .pktSongSelect p.cable p.b1 p.b2
    else .decodePacket p
  | 0x3 => if p.b0 = 0xF2 then .pktSongPositionPointer p.cable p.b1 p.b2 else .decodePacket p
  | 0x4 =>
    if p.b0 = 0xF0 then .pktSysexBegin p.cable p.b1 p.b2
    else if p.b0 < 0x80 then .pktSysexCont p.cable d0 p.b1 p.b2
    else .decodePacket p
  | 0x5 =>
    if p.b0 = 0xF6 then .pktTuneRequest p.cable p.b1 p.b2
    else if p.b0 = 0xF7 then .pktSysexEnd p.cable p.b1 p.b2
    else .decodePacket p
  | 0x6 =>
    if p.b1 = 0xF7 then
      if p.b0 = 0xF0 then .pktSysexEmpty p.cable p.b2
      else if p.b0 < 0x80 then .pktSysexEnd1 p.cable d0 p.b2
      else .decodePacket p
    else .decodePacket p
  | 0x7 =>
    if p.b2 = 0xF7 then
      if p.b0 = 0xF0 then .pktSysexSingleByte p.cable p.b1
      else if p.b0 < 0x80 then .pktSysexEnd2 p.cable d0 p.b1
      else .decodePacket p
    else .decodePacket p
  | 0xF => decodeRealtimePacket p.cable p.b0 p.b1 p.b2 (.decodePacket p)
  | _ => decodeVoicePacket p.cable p.cin p.b0 p.b1 p.b2 (.decodePacket p)

/-- The four bytes of a USB-MIDI record: cable and framing code in the first, then the payload (R70, R191). -/
def decodeUsb (w0 w1 w2 w3 : Byte) : Instr :=
  decodeRecord { cable := w0.extractLsb' 4 4, cin := w0.extractLsb' 0 4, b0 := w1, b1 := w2, b2 := w3 }

/-- Decoding one input in a parser form: total, rejecting by name. -/
def decode (mode : ParserMode) : Input → Except DecodeError Instr
  | .command code operands => decodeCommand code operands
  | .serial b => .ok (decodeSerial mode b)
  | .usb w0 w1 w2 w3 => .ok (decodeUsb w0 w1 w2 w3)

/-- The parser forms in which an instruction's row is the one its input selects: the table gives the same bits to the
three data-byte rows and to the two 0xF7 rows, told apart by `PU.state` (R240). -/
def selectedIn (mode : ParserMode) : Instr → Bool
  | .byteSysexEndInSysex => decide (mode = .inSysex)
  | .byteSysexEndSpurious => decide (mode ≠ .inSysex)
  | .byteDataIdle _ => decide (mode = .idle)
  | .byteDataAwaitingData _ => decide (mode = .awaitingData)
  | .byteDataInSysex _ => decide (mode = .inSysex)
  | _ => true

/-! ### The encoder -/

/-- Byte values as the naturals of an operand. -/
def byteNats (bs : List Byte) : List Nat := bs.map BitVec.toNat

/-- A token with its literals as naturals. -/
def tokenNats : Token → TokenOf Nat
  | .skip n => .skip n
  | .val b => .val b.toNat
  | .seq bs => .seq (byteNats bs)
  | .cap f => .cap f

/-- A packet as an operand. -/
def packetOperand (p : Packet) : Operand :=
  .packet p.cable.toNat p.cin.toNat p.b0.toNat p.b1.toNat p.b2.toNat

/-- A token program as an operand. -/
def programOperand (program : List Token) : Operand := .program (program.map tokenNats)

/-- A message as an operand: its variant and its fields in the order of R110. -/
def messageOperand : Message → Operand
  | .noteOff ch a b => .message .noteOff [ch.toNat, a.toNat, b.toNat]
  | .noteOn ch a b => .message .noteOn [ch.toNat, a.toNat, b.toNat]
  | .notePressure ch a b => .message .notePressure [ch.toNat, a.toNat, b.toNat]
  | .controlChange ch a b => .message .controlChange [ch.toNat, a.toNat, b.toNat]
  | .programChange ch a => .message .programChange [ch.toNat, a.toNat]
  | .channelPressure ch a => .message .channelPressure [ch.toNat, a.toNat]
  | .pitchBend ch v => .message .pitchBend [ch.toNat, v.toNat]
  | .timeCodeQuarterFrame a => .message .timeCodeQuarterFrame [a.toNat]
  | .songPositionPointer a b => .message .songPositionPointer [a.toNat, b.toNat]
  | .songSelect a => .message .songSelect [a.toNat]
  | .tuneRequest => .message .tuneRequest []
  | .timingClock => .message .timingClock []
  | .measureEnd => .message .measureEnd []
  | .start => .message .start []
  | .continue_ => .message .continue_ []
  | .stop => .message .stop []
  | .activeSensing => .message .activeSensing []
  | .systemReset => .message .systemReset []
  | .sysexBegin a b => .message .sysexBegin [a.toNat, b.toNat]
  | .sysexCont a b c => .message .sysexCont [a.toNat, b.toNat, c.toNat]
  | .sysexEnd => .message .sysexEnd []
  | .sysexEnd1 a => .message .sysexEnd1 [a.toNat]
  | .sysexEnd2 a b => .message .sysexEnd2 [a.toNat, b.toNat]
  | .sysexEmpty => .message .sysexEmpty []
  | .sysexSingleByte a => .message .sysexSingleByte [a.toNat]

/-- A record on the wire: the header byte is the cable above the framing code (R70). -/
def usbRecord (cable cin : U4) (b0 b1 b2 : Byte) : Input := .usb (cable ++ cin) b0 b1 b2

/-- The record of a channel-voice pattern: the kind nibble is the framing code (R101, R112). -/
def voiceRecord (cable cin ch : U4) (b1 b2 : Byte) : Input := usbRecord cable cin (cin ++ ch) b1 b2

/-- A data byte: bit 7 clear (R100). -/
def dataByte (v : U7) : Byte := v.setWidth 8

/-- The input that an instruction stands for. -/
def encode : Instr → Input
  | .cull n wide => .command 0x01 [.nat n.bits, .nat wide]
  | .fill n wide => .command 0x02 [.nat n.bits, .nat wide]
  | .fromDirect n wide => .command 0x03 [.nat n.bits, .nat wide]
  | .toWide n v => .command 0x04 [.nat n.bits, .nat v]
  | .u14FromPair msb lsb => .command 0x05 [.nat msb.toNat, .nat lsb.toNat]
  | .u14ToPair v => .command 0x06 [.nat v.toNat]
  | .channelFromExternal e => .command 0x07 [.nat e]
  | .channelToExternal c => .command 0x08 [.nat c.toNat]
  | .cableFromInt x => .command 0x09 [.nat x]
  | .cinFromInt x => .command 0x0A [.nat x]
  | .packetMake cable cin bytes => .command 0x10 [.nat cable.toNat, .nat cin.toNat, .bytes (byteNats bytes)]
  | .packetFromWire w0 w1 w2 w3 => .command 0x11 [.nat w0.toNat, .nat w1.toNat, .nat w2.toNat, .nat w3.toNat]
  | .packetToWire p => .command 0x12 [packetOperand p]
  | .payloadLen cin => .command 0x13 [.nat cin.toNat]
  | .packetPayload p => .command 0x14 [packetOperand p]
  | .isData b => .command 0x20 [.nat b.toNat]
  | .isStatus b => .command 0x21 [.nat b.toNat]
  | .isChannelVoice b => .command 0x22 [.nat b.toNat]
  | .isRealtime b => .command 0x23 [.nat b.toNat]
  | .classify b => .command 0x24 [.nat b.toNat]
  | .expectedLen k => .command 0x25 [.status k]
  | .channelOf b => .command 0x26 [.nat b.toNat]
  | .rcPack payload => .command 0x30 [.bytes (byteNats payload)]
  | .rcSerialize p => .command 0x31 [packetOperand p]
  | .rcReset => .command 0x32 []
  | .parseByte b => .command 0x40 [.nat b.toNat]
  | .parserReset => .command 0x41 []
  | .encodeMessage cable m => .command 0x50 [.nat cable.toNat, messageOperand m]
  | .decodePacket p => .command 0x51 [packetOperand p]
  | .captureStep m => .command 0x60 [messageOperand m]
  | .captureRead => .command 0x61 []
  | .captureClear => .command 0x62 []
  | .tokenFlatten program => .command 0x70 [programOperand program]
  | .tokenFrame d => .command 0x71 [.bytes (byteNats d)]
  | .genStart program cable => .command 0x72 [programOperand program, .nat cable.toNat]
  | .genNext => .command 0x73 []
  | .genRestart => .command 0x74 []
  | .matchProgram buf program => .command 0x75 [.bytes (byteNats buf), programOperand program]
  | .byteNoteOff ch => .serial (0x8#4 ++ ch)
  | .byteNoteOn ch => .serial (0x9#4 ++ ch)
  | .byteNotePressure ch => .serial (0xA#4 ++ ch)
  | .byteControlChange ch => .serial (0xB#4 ++ ch)
  | .byteProgramChange ch => .serial (0xC#4 ++ ch)
  | .byteChannelPressure ch => .serial (0xD#4 ++ ch)
  | .bytePitchBend ch => .serial (0xE#4 ++ ch)
  | .byteSysexStart => .serial 0xF0
  | .byteTimeCodeQuarterFrame => .serial 0xF1
  | .byteSongPositionPointer => .serial 0xF2
  | .byteSongSelect => .serial 0xF3
  | .byteUndefinedF4 => .serial 0xF4
  | .byteUndefinedF5 => .serial 0xF5
  | .byteTuneRequest => .serial 0xF6
  | .byteSysexEndInSysex => .serial 0xF7
  | .byteSysexEndSpurious => .serial 0xF7
  | .byteTimingClock => .serial 0xF8
  | .byteMeasureEnd => .serial 0xF9
  | .byteStart => .serial 0xFA
  | .byteContinue => .serial 0xFB
  | .byteStop => .serial 0xFC
  | .byteUndefinedFD => .serial 0xFD
  | .byteActiveSensing => .serial 0xFE
  | .byteSystemReset => .serial 0xFF
  | .byteDataIdle v => .serial (dataByte v)
  | .byteDataAwaitingData v => .serial (dataByte v)
  | .byteDataInSysex v => .serial (dataByte v)
  | .pktNoteOff cable ch b1 b2 => voiceRecord cable 0x8 ch b1 b2
  | .pktNoteOn cable ch b1 b2 => voiceRecord cable 0x9 ch b1 b2
  | .pktNotePressure cable ch b1 b2 => voiceRecord cable 0xA ch b1 b2
  | .pktControlChange cable ch b1 b2 => voiceRecord cable 0xB ch b1 b2
  | .pktProgramChange cable ch b1 b2 => voiceRecord cable 0xC ch b1 b2
  | .pktChannelPressure cable ch b1 b2 => voiceRecord cable 0xD ch b1 b2
  | .pktPitchBend cable ch b1 b2 => voiceRecord cable 0xE ch b1 b2
  | .pktTimeCodeQuarterFrame cable b1 b2 => usbRecord cable 0x2 0xF1 b1 b2
  | .pktSongSelect cable b1 b2 => usbRecord cable 0x2 0xF3 b1 b2
  | .pktSongPositionPointer cable b1 b2 => usbRecord cable 0x3 0xF2 b1 b2
  | .pktSysexBegin cable b1 b2 => usbRecord cable 0x4 0xF0 b1 b2
  | .pktSysexCont cable d0 b1 b2 => usbRecord cable 0x4 (dataByte d0) b1 b2
  | .pktTuneRequest cable b1 b2 => usbRecord cable 0x5 0xF6 b1 b2
  | .pktSysexEnd cable b1 b2 => usbRecord cable 0x5 0xF7 b1 b2
  | .pktSysexEmpty cable b2 => usbRecord cable 0x6 0xF0 0xF7 b2
  | .pktSysexEnd1 cable d0 b2 => usbRecord cable 0x6 (dataByte d0) 0xF7 b2
  | .pktSysexSingleByte cable b1 => usbRecord cable 0x7 0xF0 b1 0xF7
  | .pktSysexEnd2 cable d0 b1 => usbRecord cable 0x7 (dataByte d0) b1 0xF7
  | .pktTimingClock cable b1 b2 => usbRecord cable 0xF 0xF8 b1 b2
  | .pktMeasureEnd cable b1 b2 => usbRecord cable 0xF 0xF9 b1 b2
  | .pktStart cable b1 b2 => usbRecord cable 0xF 0xFA b1 b2
  | .pktContinue cable b1 b2 => usbRecord cable 0xF 0xFB b1 b2
  | .pktStop cable b1 b2 => usbRecord cable 0xF 0xFC b1 b2
  | .pktActiveSensing cable b1 b2 => usbRecord cable 0xF 0xFE b1 b2
  | .pktSystemReset cable b1 b2 => usbRecord cable 0xF 0xFF b1 b2

/-! ### The words of spec/opcode_table.json -/

/-- Operands "of zeros" for an operation code, each at the least value of its type: width 4, numbers 0, the empty list
and program, one zero byte where one is required (R216), the first status kind and message variant with fields 0.
DESIGN CHOICE (notes/assumptions/8.md): the table gives an operand no bits. -/
def zeroOperands (code : Nat) : List Operand :=
  match code with
  | 0x01 | 0x02 | 0x03 | 0x04 => [.nat 4, .nat 0]
  | 0x05 => [.nat 0, .nat 0]
  | 0x06 | 0x07 | 0x08 | 0x09 | 0x0A | 0x13 => [.nat 0]
  | 0x10 => [.nat 0, .nat 0, .bytes []]
  | 0x11 => [.nat 0, .nat 0, .nat 0, .nat 0]
  | 0x12 | 0x14 | 0x31 | 0x51 => [.packet 0 0 0 0 0]
  | 0x20 | 0x21 | 0x22 | 0x23 | 0x24 | 0x26 | 0x40 => [.nat 0]
  | 0x25 => [.status .noteOff]
  | 0x30 => [.bytes [0]]
  | 0x50 => [.nat 0, .message .noteOff [0, 0, 0]]
  | 0x60 => [.message .noteOff [0, 0, 0]]
  | 0x70 => [.program []]
  | 0x71 => [.bytes []]
  | 0x72 => [.program [], .nat 0]
  | 0x75 => [.bytes [], .program []]
  | _ => []

/-- The input whose bits, numbered as the table numbers them, are `w`. A word of more than 8 bits is a 32-bit packet,
its first wire byte the most significant (R71). A word of 8 bits is an operation code where R117 assigns it (with
operands of zeros), and a serial byte otherwise (notes/assumptions/8.md). -/
def tableInput (nbits w : Nat) : Input :=
  if nbits ≤ 8 then
    match operation? (w % 256) with
    | some _ => .command (BitVec.ofNat 8 w) (zeroOperands (w % 256))
    | none => .serial (BitVec.ofNat 8 w)
  else
    .usb (BitVec.ofNat 8 (w / 2 ^ 24)) (BitVec.ofNat 8 (w / 2 ^ 16)) (BitVec.ofNat 8 (w / 2 ^ 8)) (BitVec.ofNat 8 w)

/-- The instruction this decoder reads from a word of spec/opcode_table.json, with the parser in its reset form. -/
def decodeTableWord (nbits w : Nat) : Option Instr :=
  match decode .idle (tableInput nbits w) with
  | .ok i => some i
  | .error _ => none

end Sys2Proof
end

