-- ==== Sys2Proof/Machine/State.lean ====
section
/-! DEFINITION. The machine's state: every state element of 10_state.md R30, the parameters of 00_scope.md R9, the
caller's pending events and the last operation's result; the reasons a step can stop; and reset (R43, R440). -/

namespace Sys2Proof.Machine

/-- `PU.state` (R31): the status byte is the whole byte, channel included; the list holds the scratch area's bytes. -/
inductive ParserState where
  | idle
  | awaitingData (status : Byte) (collected : List Byte)
  | inSysex (collected : List Byte)
  deriving DecidableEq, Repr

/-- The form of a parser state (R31, R39). -/
def ParserState.mode : ParserState → ParserMode
  | .idle => .idle
  | .awaitingData _ _ => .awaitingData
  | .inSysex _ => .inSysex

/-- The state of the block, one instance of each unit (notes/assumptions/3.md), and its two sides to the caller. -/
structure State where
  /-- `PU.state` (R31). -/
  pu : ParserState
  /-- `RC.last_status` (R34). -/
  rcLast : Option Byte
  /-- `SC.buf`, the valid bytes of the capture buffer (R35). -/
  scBuf : List Byte
  /-- `TG.msgs` (R38). -/
  tgMsgs : List Message
  /-- `TG.k` (R38). -/
  tgK : Nat
  /-- `TG.cable` (R38). -/
  tgCable : U4
  /-- The static parameters (R9, R40): no operation writes them. -/
  params : Params
  /-- What the caller has still to do, oldest first (notes/assumptions/1.md): the model's own field. -/
  pending : List Event
  /-- The last operation's result (R12, R401, notes/assumptions/2.md): the model's own field; no operation reads it. -/
  output : Option OpResult
  deriving DecidableEq, Repr

/-- Why the machine stops with a fault. The block itself has no traps (R401): both reasons guard accesses no run makes. -/
inductive Fault where
  /-- Raised by the parser on 0xF7 in `InSysex` with three or more bytes in the scratch area, a state R32 rules out and
  R243 gives no packet for. Safe (notes/assumptions/12.md). -/
  | scratchOverrun
  /-- Raised by CAPTURE_STEP and CAPTURE_READ for an access to `SC.buf` outside the ranges R78 admits, which "is never
  made". Safe (notes/assumptions/13.md). -/
  | captureAccess
  deriving DecidableEq, Repr

/-- Why a run has no meaning (R409). Every reason but `notModelled` is one the spec names. -/
inductive Refusal where
  /-- Raised by exec's arm of an instruction without a meaning. Safe. No arm raises it. -/
  | notModelled (mnemonic : String)
  /-- Raised by step: an unassigned operation code (R117, R119, R409). Safe. -/
  | unassignedCode (code : Byte)
  /-- Raised by step: an operand missing, of another kind, or outside its declared type (R409). Safe. -/
  | operandType (code : Byte)
  /-- Raised by TO_WIDE: the operand is not of type UN (R160, R164, R409). Safe. -/
  | valueNotBounded (n : Width) (v : Nat)
  /-- Raised by PACKET_MAKE: more than 3 bytes (R190, R409). Safe. -/
  | packetTooLong
  /-- Raised by RC_PACK: an empty payload (R216, R409). Safe. -/
  | payloadEmpty
  /-- Raised by RC_PACK: a payload of more than 3 bytes, outside its declared type (R216, R409). Safe. -/
  | payloadTooLong
  /-- Raised by TOKEN_FRAME: a byte of 0x80 or more (R372, R409). Safe. -/
  | frameByte
  /-- Raised by TOKEN_FLATTEN, GEN_START and MATCH: a token program that is not well-formed (R116, R409). Safe. -/
  | illFormedProgram
  /-- Raised by step: two operations on one instance with no order between them (R81, R443, R409). Safe. -/
  | unorderedOperations
  /-- Raised by step: the caller writes the capture buffer's storage (R84, R443, R409). Safe. -/
  | callerWrite
  deriving DecidableEq, Repr

/-- The state of a newly constructed block with the given parameters (R43, R440, R442): nothing known, nothing issued. -/
def State.initial (params : Params) : State :=
  { pu := .idle, rcLast := none, scBuf := [], tgMsgs := [], tgK := 0, tgCable := 0,
    params := params, pending := [], output := none }

/-- The machine right after reset (R43), with the default parameters (R9, notes/assumptions/4.md). -/
def State.reset : State := State.initial Params.default

end Sys2Proof.Machine
end

