-- ==== Sys2Proof/Machine/Operands.lean ====
section
/-! DEFINITION. Operand forms: the bounded-integer constructors (40_bounded.md), the 14-bit pair (20_memory.md R72, R73),
the packet's fields and its wire form (R70, R113), framing-code lengths (R193) and the data-field read d7 (R283). -/

namespace Sys2Proof.Machine

/-! ### Bounded integers -/

/-- CULL: the low N bits (R161). -/
def cullTo (n : Width) (wide : Nat) : Nat := wide % 2 ^ n.bits

/-- FILL: clamped to `MAX_N` (R162). -/
def fillTo (n : Width) (wide : Nat) : Nat := if n.max < wide then n.max else wide

/-- FROM_DIRECT: fails when the value does not fit (R163). -/
def directTo (n : Width) (wide : Nat) : Except ErrorKind Nat :=
  if n.max < wide then .error (.invalidValue n [wide]) else .ok wide

/-- `msb << 7 | lsb`, of two bytes at most 0x7F (R165, R72). -/
def u14FromBytes (msb lsb : Byte) : Except ErrorKind U14 :=
  if 0x7F < msb.toNat ∨ 0x7F < lsb.toNat then .error (.invalidValue .w14 [msb.toNat, lsb.toNat])
  else .ok (msb.setWidth 14 <<< 7 ||| lsb.setWidth 14)

/-- `v[13:7]` (R166). -/
def u14Msb (v : U14) : U7 := v.extractLsb' 7 7

/-- `v[6:0]` (R166). -/
def u14Lsb (v : U14) : U7 := v.extractLsb' 0 7

/-- An external channel number 1 to 16 as an internal channel 0 to 15 (R167). -/
def channelOfExternal (e : Nat) : Except ErrorKind Nat :=
  if e < 1 ∨ 16 < e then .error (.invalidChannel e) else .ok (e - 1)

/-- A cable number (R170). -/
def cableOfNat (x : Nat) : Except ErrorKind Nat := if 15 < x then .error (.invalidCable x) else .ok x

/-- A framing code (R171). -/
def cinOfNat (x : Nat) : Except ErrorKind Nat := if 15 < x then .error (.invalidCode x) else .ok x

/-! ### Packets -/

/-- The channel nibble of a status byte, `b[3:0]` (R113). -/
def lowNibble (b : Byte) : U4 := b.extractLsb' 0 4

/-- The kind nibble of a status byte, `b[7:4]` (R113). -/
def highNibble (b : Byte) : U4 := b.extractLsb' 4 4

/-- PACKET_MAKE on a list of at most three bytes: the first three of the list padded with zeros (R190). -/
def makePacket (cable cin : U4) (bytes : List Byte) : Packet :=
  { cable, cin, b0 := bytes.getD 0 0, b1 := bytes.getD 1 0, b2 := bytes.getD 2 0 }

/-- The packet of a 4-byte record (R191). -/
def packetOfWire (w0 w1 w2 w3 : Byte) : Packet :=
  { cable := highNibble w0, cin := lowNibble w0, b0 := w1, b1 := w2, b2 := w3 }

/-- The header byte of a packet's record, `cable << 4 | cin` (R70, R192). -/
def headerByte (p : Packet) : Byte := p.cable.setWidth 8 <<< 4 ||| p.cin.setWidth 8

/-- The 4 bytes of a packet's record (R192). -/
def wireOfPacket (p : Packet) : List Byte := [headerByte p, p.b0, p.b1, p.b2]

/-- PAYLOAD_LEN, the fourth column of R108 (R193). -/
def payloadLenOf (cin : U4) : Option Nat :=
  match cin.toNat with
  | 0x0 => none
  | 0x1 => none
  | 0x2 => some 2
  | 0x3 => some 3
  | 0x4 => some 3
  | 0x5 => some 1
  | 0x6 => some 2
  | 0x7 => some 3
  | 0x8 => some 3
  | 0x9 => some 3
  | 0xA => some 3
  | 0xB => some 3
  | 0xC => some 2
  | 0xD => some 2
  | 0xE => some 3
  | _ => some 1

/-- PACKET_PAYLOAD: the meaningful payload bytes (R194). -/
def payloadOf (p : Packet) : Except ErrorKind (List Byte) :=
  match payloadLenOf p.cin with
  | none => .error (.badPacket p)
  | some n => .ok ([p.b0, p.b1, p.b2].take n)

/-! ### Data fields -/

/-- A data field as the byte that carries it: bit 7 clear (R110). -/
def fieldByte (d : U7) : Byte := d.setWidth 8

/-- The low seven bits of a byte. -/
def bodyField (b : Byte) : U7 := b.setWidth 7

/-- The data-field read of DECODE (R283): under `Cull` a byte of 0x80 or more is masked, under `Reject` it fails. -/
def d7 (policy : DataPolicy) (x : Byte) : Option U7 :=
  if x.toNat < 0x80 then some (bodyField x)
  else
    match policy with
    | .cull => some (bodyField x)
    | .reject => none

end Sys2Proof.Machine
end

