-- ==== Sys2Proof/Machine/Flags.lean ====
section
/-! DEFINITION. The block has no condition flags (10_state.md R39). This file holds the tests the rules make: the
predicates and the classification of a byte (42_status_compressor.md R210 to R215), the framing code of a status (R249),
the derived facts of R39, the units of R2 and the error codes of R400. -/

namespace Sys2Proof.Machine

/-- IS_DATA (R210). -/
def isDataByte (b : Byte) : Bool := decide (b.toNat < 0x80)

/-- IS_STATUS (R210). -/
def isStatusByte (b : Byte) : Bool := decide (0x80 ≤ b.toNat)

/-- IS_CHANNEL_VOICE (R211). -/
def isVoiceByte (b : Byte) : Bool := decide (0x80 ≤ b.toNat ∧ b.toNat ≤ 0xEF)

/-- IS_REALTIME (R212). -/
def isRealtimeByte (b : Byte) : Bool := decide (0xF8 ≤ b.toNat)

/-- `CV_KIND`, the channel-voice rows of the status table by kind nibble (R102). -/
def voiceKind (nibble : Nat) : StatusKind :=
  match nibble with
  | 0x8 => .noteOff
  | 0x9 => .noteOn
  | 0xA => .notePressure
  | 0xB => .controlChange
  | 0xC => .programChange
  | 0xD => .channelPressure
  | _ => .pitchBend

/-- `SYS_KIND`, the rows 0xF0 to 0xFF of the status table but 0xF7, by low nibble (R102). -/
def systemKind (low : Nat) : StatusKind :=
  match low with
  | 0x0 => .sysexStart
  | 0x1 => .timeCodeQuarterFrame
  | 0x2 => .songPositionPointer
  | 0x3 => .songSelect
  | 0x4 => .undefinedF4
  | 0x5 => .undefinedF5
  | 0x6 => .tuneRequest
  | 0x8 => .timingClock
  | 0x9 => .measureEnd
  | 0xA => .start
  | 0xB => .continue_
  | 0xC => .stop
  | 0xD => .undefinedFD
  | 0xE => .activeSensing
  | _ => .systemReset

/-- CLASSIFY (R213). -/
def classifyByte (b : Byte) : Except ErrorKind StatusKind :=
  if b.toNat < 0x80 ∨ b.toNat = 0xF7 then .error (.invalidStatus b)
  else if b.toNat ≤ 0xEF then .ok (voiceKind (highNibble b).toNat)
  else .ok (systemKind (lowNibble b).toNat)

/-- EXPECTED_LEN, the fourth column of the status table (R102, R106, R214). -/
def expectedLenOf : StatusKind → Nat
  | .noteOff => 3
  | .noteOn => 3
  | .notePressure => 3
  | .controlChange => 3
  | .programChange => 2
  | .channelPressure => 2
  | .pitchBend => 3
  | .sysexStart => 3
  | .timeCodeQuarterFrame => 2
  | .songPositionPointer => 3
  | .songSelect => 2
  | .undefinedF4 => 1
  | .undefinedF5 => 1
  | .tuneRequest => 1
  | .timingClock => 1
  | .measureEnd => 1
  | .start => 1
  | .continue_ => 1
  | .stop => 1
  | .undefinedFD => 1
  | .activeSensing => 1
  | .systemReset => 1

/-- CHANNEL_OF (R215). -/
def channelOfByte (b : Byte) : Option Nat := if isVoiceByte b then some (lowNibble b).toNat else none

/-- CIN_FOR: the framing code of a packet the parser emits for a status byte `s` of kind `k = CLASSIFY(s)` (R249). -/
def cinFor (s : Byte) (k : StatusKind) : U4 :=
  if isVoiceByte s then highNibble s
  else if isRealtimeByte s then 0xF
  else
    match expectedLenOf k with
    | 1 => 0x5
    | 2 => 0x2
    | _ => 0x3

/-! ### Derived facts (R39) -/

/-- PU is in `Idle` (R39). -/
def parserIdle (s : State) : Bool := decide (s.pu.mode = .idle)

/-- PU is in `InSysex` (R39). -/
def parserInSysex (s : State) : Bool := decide (s.pu.mode = .inSysex)

/-- SC is capturing (R39). -/
def capturing (s : State) : Bool := decide (0 < s.scBuf.length)

/-- TG is finished (R39). -/
def genFinished (s : State) : Bool := decide (s.tgK = s.tgMsgs.length)

/-- The parser's running status, where it has one (R33). -/
def runningStatus (s : State) : Option Byte :=
  match s.pu with
  | .awaitingData status [] => some status
  | _ => none

/-! ### Units and error codes -/

/-- The unit that performs the operation of an input (R2, R117); none for an unassigned code. -/
def unitOf : Input → Option UnitId
  | .serial _ => some .pu
  | .usb _ _ _ _ => some .cd
  | .command code _ =>
    match operation? code.toNat with
    | none => none
    | some _ =>
      match code.toNat / 16 with
      | 0 => some .bi
      | 1 => some .pk
      | 2 => some .st
      | 3 => some .rc
      | 4 => some .pu
      | 5 => some .cd
      | 6 => some .sc
      | _ => if code.toNat = 0x75 then some .tm else some .tg

/-- The code of an error kind (R400). -/
def errorCode : ErrorKind → Nat
  | .invalidStatus _ => 0x01
  | .badPacket _ => 0x02
  | .invalidChannel _ => 0x03
  | .invalidValue _ _ => 0x04
  | .invalidCode _ => 0x05
  | .invalidCable _ => 0x06
  | .sysexOutOfBounds => 0x07
  | .bufferOverflow => 0x08
  | .spuriousSysexContinuation => 0x09
  | .spuriousSysexEnd _ => 0x0A
  | .noMatch => 0x0B

end Sys2Proof.Machine
end

