-- ==== Sys2Proof/Machine/Ops.lean ====
section
/-! DEFINITION. The shared operations on the state: one update per state element, ending an operation with `ok` or with
an error (00_scope.md R12, 60_exceptions.md R401), and the accesses to the capture buffer (20_memory.md R78,
45_sysex_capture.md R341). -/

namespace Sys2Proof.Machine

/-- The outcome of one operation. -/
abbrev StepOutcome := Host.Outcome State Fault Refusal

/-! ### Updates, one per state element (R12) -/

/-- `PU.state <- v`. -/
def State.setPu (s : State) (v : ParserState) : State := { s with pu := v }

/-- `RC.last_status <- v`. -/
def State.setRcLast (s : State) (v : Option Byte) : State := { s with rcLast := v }

/-- `SC.buf <- v`. -/
def State.setScBuf (s : State) (v : List Byte) : State := { s with scBuf := v }

/-- `TG.msgs <- v`. -/
def State.setTgMsgs (s : State) (v : List Message) : State := { s with tgMsgs := v }

/-- `TG.k <- v`. -/
def State.setTgK (s : State) (v : Nat) : State := { s with tgK := v }

/-- `TG.cable <- v`. -/
def State.setTgCable (s : State) (v : U4) : State := { s with tgCable := v }

/-- The caller's pending events. -/
def State.setPending (s : State) (v : List Event) : State := { s with pending := v }

/-- The result of the operation that ends. -/
def State.setOutput (s : State) (v : Option OpResult) : State := { s with output := v }

/-! ### Ending an operation -/

/-- `return ok(v)` (R12). -/
def finish (v : Value) (s : State) : StepOutcome := .next (s.setOutput (some (.ok v)))

/-- `raise E(info)`: the block's counterpart of taking an exception. The error is the operation's output, no state is
saved, no mode changes and control goes nowhere; there is no return operation, the next operation runs as usual
(R401, R403, R404). The unit's error state is the argument (R402). -/
def raise (e : ErrorKind) (s : State) : StepOutcome := .next (s.setOutput (some (.err e)))

/-- Ends an operation with a value or an error, in the same state. -/
def conclude (r : Except ErrorKind Value) (s : State) : StepOutcome :=
  match r with
  | .ok v => finish v s
  | .error e => raise e s

/-- Ends an operation whose result is a natural. -/
def concludeNat (r : Except ErrorKind Nat) (s : State) : StepOutcome := conclude (r.map .nat) s

/-! ### The capture buffer -/

/-- `MemRead(i, 1)` on `SC.buf`: admitted only for `i < len(SC.buf)` (R78). -/
def memRead (buf : List Byte) (i : Nat) : Option Byte := buf[i]?

/-- `MemWrite(i, 1, v)` on `SC.buf`: admitted only for `i = len(SC.buf) < CAPTURE_CAPACITY`, and appends (R78). -/
def memWrite (capacity : Nat) (buf : List Byte) (i : Nat) (v : Byte) : Option (List Byte) :=
  if i = buf.length ∧ i < capacity then some (buf ++ [v]) else none

/-- The reads of CAPTURE_READ at indices `i` to `i + n − 1` (R350). -/
def memReadFrom (buf : List Byte) (i : Nat) : Nat → Option (List Byte)
  | 0 => some []
  | n + 1 =>
    match memRead buf i, memReadFrom buf (i + 1) n with
    | some b, some bs => some (b :: bs)
    | _, _ => none

/-- The writes of APPEND, one byte at a time at index `len(SC.buf)` (R341). -/
def memAppend (capacity : Nat) (buf : List Byte) : List Byte → Option (List Byte)
  | [] => some buf
  | v :: vs =>
    match memWrite capacity buf buf.length v with
    | some buf => memAppend capacity buf vs
    | none => none

/-- The canonical form of the capture buffer: at most `CAPTURE_CAPACITY` bytes, each below 0x80 (R35, R36). The block
has no addressed memory; this list is its only byte store that lives between operations beside the parser's scratch. -/
def Memory.wf (capacity : Nat) (buf : List Byte) : Bool := decide (buf.length ≤ capacity) && buf.all isBodyByte

/-- `APPEND(bytes)`, all or nothing, and then `ok` with what the buffer's new length gives (R341). An overflow empties
the buffer and raises BufferOverflow. -/
def captureAppend (bytes : List Byte) (result : Nat → CaptureResult) (s : State) : StepOutcome :=
  if s.params.captureCapacity < s.scBuf.length + bytes.length then raise .bufferOverflow (s.setScBuf [])
  else
    match memAppend s.params.captureCapacity s.scBuf bytes with
    | none => .fault .captureAccess
    | some buf => finish (.capture (result buf.length)) (s.setScBuf buf)

end Sys2Proof.Machine
end

