-- ==== Sys2Proof/Machine/Bounded.lean ====
section
/-! DEFINITION. The bounded-integer unit BI, combinational (40_bounded.md R161 to R171). -/

namespace Sys2Proof.Machine

/-- CULL (R161). -/
def execCull (n : Width) (wide : Nat) (s : State) : StepOutcome := finish (.nat (cullTo n wide)) s

/-- FILL (R162). -/
def execFill (n : Width) (wide : Nat) (s : State) : StepOutcome := finish (.nat (fillTo n wide)) s

/-- FROM_DIRECT (R163). -/
def execFromDirect (n : Width) (wide : Nat) (s : State) : StepOutcome := concludeNat (directTo n wide) s

/-- TO_WIDE (R164). An operand that is not of type UN is refused (R409). -/
def execToWide (n : Width) (v : Nat) (s : State) : StepOutcome :=
  if v ≤ n.max then finish (.nat v) s else .refused (.valueNotBounded n v)

/-- U14_FROM_PAIR (R165). -/
def execU14FromPair (msb lsb : Byte) (s : State) : StepOutcome :=
  concludeNat ((u14FromBytes msb lsb).map BitVec.toNat) s

/-- U14_TO_PAIR (R166). -/
def execU14ToPair (v : U14) (s : State) : StepOutcome := finish (.pair (u14Msb v) (u14Lsb v)) s

/-- CHANNEL_FROM_EXTERNAL (R167). -/
def execChannelFromExternal (e : Nat) (s : State) : StepOutcome := concludeNat (channelOfExternal e) s

/-- CHANNEL_TO_EXTERNAL (R168). -/
def execChannelToExternal (c : U4) (s : State) : StepOutcome := finish (.nat (c.toNat + 1)) s

/-- CABLE_FROM_INT (R170). -/
def execCableFromInt (x : Nat) (s : State) : StepOutcome := concludeNat (cableOfNat x) s

/-- CIN_FROM_INT (R171). -/
def execCinFromInt (x : Nat) (s : State) : StepOutcome := concludeNat (cinOfNat x) s

end Sys2Proof.Machine
end

