-- ==== Sys2Proof/Machine/Capture.lean ====
section
/-! DEFINITION. The sysex-capture unit SC (45_sysex_capture.md R340 to R351): one definition per variant rule. -/

namespace Sys2Proof.Machine

/-- SysexBegin opens a run (R342). -/
def captureBegin (d0 d1 : U7) (s : State) : StepOutcome :=
  captureAppend [fieldByte d0, fieldByte d1] (fun _ => .pending) (s.setScBuf [])

/-- SysexCont continues a run; emptiness is tested before capacity (R343, R405). -/
def captureCont (d0 d1 d2 : U7) (s : State) : StepOutcome :=
  if s.scBuf.length = 0 then raise .spuriousSysexContinuation s
  else captureAppend [fieldByte d0, fieldByte d1, fieldByte d2] (fun _ => .pending) s

/-- SysexEnd closes a run with no further body byte (R344). -/
def captureEnd (s : State) : StepOutcome :=
  if s.scBuf.length = 0 then raise (.spuriousSysexEnd none) s
  else finish (.capture (.captured s.scBuf.length)) s

/-- SysexEnd1 and SysexEnd2 close a run with their last body bytes; emptiness is tested before capacity (R345, R346,
R405). -/
def captureLast (bytes : List Byte) (s : State) : StepOutcome :=
  if s.scBuf.length = 0 then raise (.spuriousSysexEnd none) s
  else captureAppend bytes (fun n => .captured n) s

/-- SysexSingleByte is a whole run of one body byte (R347). -/
def captureSingle (d0 : U7) (s : State) : StepOutcome :=
  captureAppend [fieldByte d0] (fun _ => .captured 1) (s.setScBuf [])

/-- SysexEmpty is a whole run with no body byte (R348). -/
def captureEmpty (s : State) : StepOutcome := finish (.capture (.captured 0)) (s.setScBuf [])

/-- A message that is no sysex fragment resets the unit (R349). -/
def captureOther (s : State) : StepOutcome := finish (.capture .notSysex) (s.setScBuf [])

/-- CAPTURE_STEP, by the message's variant (R340). -/
def execCaptureStep (m : Message) (s : State) : StepOutcome :=
  match m with
  | .sysexBegin d0 d1 => captureBegin d0 d1 s
  | .sysexCont d0 d1 d2 => captureCont d0 d1 d2 s
  | .sysexEnd => captureEnd s
  | .sysexEnd1 d0 => captureLast [fieldByte d0] s
  | .sysexEnd2 d0 d1 => captureLast [fieldByte d0, fieldByte d1] s
  | .sysexSingleByte d0 => captureSingle d0 s
  | .sysexEmpty => captureEmpty s
  | .noteOff _ _ _ => captureOther s
  | .noteOn _ _ _ => captureOther s
  | .notePressure _ _ _ => captureOther s
  | .controlChange _ _ _ => captureOther s
  | .programChange _ _ => captureOther s
  | .channelPressure _ _ => captureOther s
  | .pitchBend _ _ => captureOther s
  | .timeCodeQuarterFrame _ => captureOther s
  | .songPositionPointer _ _ => captureOther s
  | .songSelect _ => captureOther s
  | .tuneRequest => captureOther s
  | .timingClock => captureOther s
  | .measureEnd => captureOther s
  | .start => captureOther s
  | .continue_ => captureOther s
  | .stop => captureOther s
  | .activeSensing => captureOther s
  | .systemReset => captureOther s

/-- CAPTURE_READ (R350): reads every valid byte and changes nothing. -/
def execCaptureRead (s : State) : StepOutcome :=
  match memReadFrom s.scBuf 0 s.scBuf.length with
  | some bs => finish (.bytes bs) s
  | none => .fault .captureAccess

/-- CAPTURE_CLEAR (R351). -/
def execCaptureClear (s : State) : StepOutcome := finish .unit (s.setScBuf [])

end Sys2Proof.Machine
end

