-- ==== Sys2Proof/Machine/Compressor.lean ====
section
/-! DEFINITION. The running-status compressor RC (42_status_compressor.md R216 to R218). -/

namespace Sys2Proof.Machine

/-- The body of RC_PACK on a payload `first :: rest` (R216). -/
def packPayload (first : Byte) (rest : List Byte) (s : State) : StepOutcome :=
  if isVoiceByte first then
    if s.rcLast = some first then finish (.bytes rest) s
    else finish (.bytes (first :: rest)) (s.setRcLast (some first))
  else finish (.bytes (first :: rest)) (s.setRcLast none)

/-- RC_PACK (R216). An empty payload is refused, and so is one of more than 3 bytes. -/
def execRcPack (payload : List Byte) (s : State) : StepOutcome :=
  match payload with
  | [] => .refused .payloadEmpty
  | first :: rest => if rest.length ≤ 2 then packPayload first rest s else .refused .payloadTooLong

/-- RC_SERIALIZE (R217): PACKET_PAYLOAD, then RC_PACK. -/
def execRcSerialize (p : Packet) (s : State) : StepOutcome :=
  match payloadOf p with
  | .error e => raise e s
  | .ok payload => execRcPack payload s

/-- RC_RESET (R218). -/
def execRcReset (s : State) : StepOutcome := finish .unit (s.setRcLast none)

end Sys2Proof.Machine
end

