-- ==== Sys2Proof/Machine/Packet.lean ====
section
/-! DEFINITION. The packet unit PK, combinational (41_packet.md R190 to R194). -/

namespace Sys2Proof.Machine

/-- PACKET_MAKE (R190). A list longer than 3 bytes is refused. -/
def execPacketMake (cable cin : U4) (bytes : List Byte) (s : State) : StepOutcome :=
  if bytes.length ≤ 3 then finish (.packet (makePacket cable cin bytes)) s else .refused .packetTooLong

/-- PACKET_FROM_WIRE (R191). -/
def execPacketFromWire (w0 w1 w2 w3 : Byte) (s : State) : StepOutcome :=
  finish (.packet (packetOfWire w0 w1 w2 w3)) s

/-- PACKET_TO_WIRE (R192). -/
def execPacketToWire (p : Packet) (s : State) : StepOutcome := finish (.bytes (wireOfPacket p)) s

/-- PAYLOAD_LEN (R193). -/
def execPayloadLen (cin : U4) (s : State) : StepOutcome := finish (.optNat (payloadLenOf cin)) s

/-- PACKET_PAYLOAD (R194). -/
def execPacketPayload (p : Packet) (s : State) : StepOutcome := conclude ((payloadOf p).map .bytes) s

end Sys2Proof.Machine
end

