-- ==== Sys2Proof/Machine/Parser.lean ====
section
/-! DEFINITION. The byte-stream packet parser PU (43_parser.md R240 to R250): one definition per rule, PARSE_BYTE's
dispatch over them and PARSER_RESET. -/

namespace Sys2Proof.Machine

/-- `ok(none)`. -/
def parseNone (s : State) : StepOutcome := finish (.optPacket none) s

/-- `ok(some packet)`, the packet on `PARSER_CABLE` (R240). -/
def parseSome (cin : U4) (bytes : List Byte) (s : State) : StepOutcome :=
  finish (.optPacket (some (makePacket s.params.parserCable cin bytes))) s

/-- A parser error: the parser returns to `Idle` (R402). -/
def parseError (e : ErrorKind) (s : State) : StepOutcome := raise e (s.setPu .idle)

/-- A real-time byte passes straight through (R241). -/
def parseRealtime (b : Byte) (s : State) : StepOutcome := parseSome 0xF [b] s

/-- 0xF0 starts a sysex run (R242). -/
def parseSysexStart (s : State) : StepOutcome := parseNone (s.setPu (.inSysex [0xF0]))

/-- 0xF7 inside a run flushes the collected bytes and ends it (R243). The scratch area never holds three (R32). -/
def parseSysexEnd (collected : List Byte) (s : State) : StepOutcome :=
  match collected with
  | [] => parseSome 0x5 [0xF7] (s.setPu .idle)
  | [a] => parseSome 0x6 [a, 0xF7] (s.setPu .idle)
  | [a, b] => parseSome 0x7 [a, b, 0xF7] (s.setPu .idle)
  | _ => .fault .scratchOverrun

/-- 0xF7 outside a run is an error (R244). -/
def parseSpuriousEnd (s : State) : StepOutcome := parseError (.spuriousSysexEnd (some 0xF7)) s

/-- 0xF7, by the parser's form (R240). -/
def parseEndByte (s : State) : StepOutcome :=
  match s.pu with
  | .inSysex collected => parseSysexEnd collected s
  | .idle => parseSpuriousEnd s
  | .awaitingData _ _ => parseSpuriousEnd s

/-- A channel-voice or system-common status byte starts a new message (R245). CLASSIFY cannot fail here. -/
def parseStatusByte (b : Byte) (s : State) : StepOutcome :=
  match classifyByte b with
  | .error e => parseError e s
  | .ok k =>
    if expectedLenOf k = 1 then parseSome (cinFor b k) [b] (s.setPu .idle)
    else parseNone (s.setPu (.awaitingData b []))

/-- A data byte with no status known is an error (R246). -/
def parseDataIdle (b : Byte) (s : State) : StepOutcome := parseError (.invalidStatus b) s

/-- The parser state after a completed message: the status stays as running status if it is a channel-voice status or
`SYSCOMMON_RUNNING_STATUS` (R247). -/
def afterMessage (params : Params) (status : Byte) : ParserState :=
  if isVoiceByte status || params.sysCommonRunningStatus then .awaitingData status [] else .idle

/-- A data byte in `AwaitingData` is collected and completes the message when enough are (R247). In no state R32 allows
does CLASSIFY fail on the stored status. -/
def parseDataAwaiting (status : Byte) (collected : List Byte) (b : Byte) (s : State) : StepOutcome :=
  match classifyByte status with
  | .error e => parseError e s
  | .ok k =>
    if (collected ++ [b]).length = expectedLenOf k - 1 then
      parseSome (cinFor status k) (status :: (collected ++ [b])) (s.setPu (afterMessage s.params status))
    else parseNone (s.setPu (.awaitingData status (collected ++ [b])))

/-- A data byte in `InSysex` is collected; every third flushes a packet (R248). -/
def parseDataSysex (collected : List Byte) (b : Byte) (s : State) : StepOutcome :=
  if (collected ++ [b]).length = 3 then parseSome 0x4 (collected ++ [b]) (s.setPu (.inSysex []))
  else parseNone (s.setPu (.inSysex (collected ++ [b])))

/-- A data byte, by the parser's form (R240). -/
def parseDataByte (b : Byte) (s : State) : StepOutcome :=
  match s.pu with
  | .idle => parseDataIdle b s
  | .awaitingData status collected => parseDataAwaiting status collected b s
  | .inSysex collected => parseDataSysex collected b s

/-- PARSE_BYTE, in the order of R240. -/
def execParseByte (b : Byte) (s : State) : StepOutcome :=
  if isRealtimeByte b then parseRealtime b s
  else if b = 0xF0 then parseSysexStart s
  else if b = 0xF7 then parseEndByte s
  else if isStatusByte b then parseStatusByte b s
  else parseDataByte b s

/-- PARSER_RESET (R250). -/
def execParserReset (s : State) : StepOutcome := finish .unit (s.setPu .idle)

end Sys2Proof.Machine
end

