-- ==== Sys2Proof/Machine/SerialBytes.lean ====
section
/-! DEFINITION. The byte classes of the serial input, one meaning per row: the rule of 43_parser.md that row names. The
two 0xF7 rows and the three data-byte rows have the same bits and differ in `PU.state`: each meaning looks at the
parser's form, as R240 does, so in a state the row does not name it does what the byte does there
(notes/assumptions/6.md). -/

namespace Sys2Proof.Machine

/-- BYTE.NoteOff (R245). -/
def execByteNoteOff (ch : U4) (s : State) : StepOutcome := parseStatusByte (0x8#4 ++ ch) s

/-- BYTE.NoteOn (R245). -/
def execByteNoteOn (ch : U4) (s : State) : StepOutcome := parseStatusByte (0x9#4 ++ ch) s

/-- BYTE.NotePressure (R245). -/
def execByteNotePressure (ch : U4) (s : State) : StepOutcome := parseStatusByte (0xA#4 ++ ch) s

/-- BYTE.ControlChange (R245). -/
def execByteControlChange (ch : U4) (s : State) : StepOutcome := parseStatusByte (0xB#4 ++ ch) s

/-- BYTE.ProgramChange (R245). -/
def execByteProgramChange (ch : U4) (s : State) : StepOutcome := parseStatusByte (0xC#4 ++ ch) s

/-- BYTE.ChannelPressure (R245). -/
def execByteChannelPressure (ch : U4) (s : State) : StepOutcome := parseStatusByte (0xD#4 ++ ch) s

/-- BYTE.PitchBend (R245). -/
def execBytePitchBend (ch : U4) (s : State) : StepOutcome := parseStatusByte (0xE#4 ++ ch) s

/-- BYTE.SysexStart (R242). -/
def execByteSysexStart (s : State) : StepOutcome := parseSysexStart s

/-- BYTE.TimeCodeQuarterFrame (R245). -/
def execByteTimeCodeQuarterFrame (s : State) : StepOutcome := parseStatusByte 0xF1 s

/-- BYTE.SongPositionPointer (R245). -/
def execByteSongPositionPointer (s : State) : StepOutcome := parseStatusByte 0xF2 s

/-- BYTE.SongSelect (R245). -/
def execByteSongSelect (s : State) : StepOutcome := parseStatusByte 0xF3 s

/-- BYTE.UndefinedF4 (R245, R105). -/
def execByteUndefinedF4 (s : State) : StepOutcome := parseStatusByte 0xF4 s

/-- BYTE.UndefinedF5 (R245, R105). -/
def execByteUndefinedF5 (s : State) : StepOutcome := parseStatusByte 0xF5 s

/-- BYTE.TuneRequest (R245). -/
def execByteTuneRequest (s : State) : StepOutcome := parseStatusByte 0xF6 s

/-- BYTE.SysexEnd.in_sysex (R243). -/
def execByteSysexEndInSysex (s : State) : StepOutcome := parseEndByte s

/-- BYTE.SysexEnd.spurious (R244). -/
def execByteSysexEndSpurious (s : State) : StepOutcome := parseEndByte s

/-- BYTE.TimingClock (R241). -/
def execByteTimingClock (s : State) : StepOutcome := parseRealtime 0xF8 s

/-- BYTE.MeasureEnd (R241). -/
def execByteMeasureEnd (s : State) : StepOutcome := parseRealtime 0xF9 s

/-- BYTE.Start (R241). -/
def execByteStart (s : State) : StepOutcome := parseRealtime 0xFA s

/-- BYTE.Continue (R241). -/
def execByteContinue (s : State) : StepOutcome := parseRealtime 0xFB s

/-- BYTE.Stop (R241). -/
def execByteStop (s : State) : StepOutcome := parseRealtime 0xFC s

/-- BYTE.UndefinedFD (R241, R105). -/
def execByteUndefinedFD (s : State) : StepOutcome := parseRealtime 0xFD s

/-- BYTE.ActiveSensing (R241). -/
def execByteActiveSensing (s : State) : StepOutcome := parseRealtime 0xFE s

/-- BYTE.SystemReset (R241): it resets nothing (R440). -/
def execByteSystemReset (s : State) : StepOutcome := parseRealtime 0xFF s

/-- BYTE.data.Idle (R246). -/
def execByteDataIdle (v : U7) (s : State) : StepOutcome := parseDataByte (fieldByte v) s

/-- BYTE.data.AwaitingData (R247). -/
def execByteDataAwaitingData (v : U7) (s : State) : StepOutcome := parseDataByte (fieldByte v) s

/-- BYTE.data.InSysex (R248). -/
def execByteDataInSysex (v : U7) (s : State) : StepOutcome := parseDataByte (fieldByte v) s

end Sys2Proof.Machine
end

