-- ==== Sys2Proof/Machine/Status.lean ====
section
/-! DEFINITION. The status-taxonomy unit ST, combinational (42_status_compressor.md R210 to R215). -/

namespace Sys2Proof.Machine

/-- IS_DATA (R210). -/
def execIsData (b : Byte) (s : State) : StepOutcome := finish (.bool (isDataByte b)) s

/-- IS_STATUS (R210). -/
def execIsStatus (b : Byte) (s : State) : StepOutcome := finish (.bool (isStatusByte b)) s

/-- IS_CHANNEL_VOICE (R211). -/
def execIsChannelVoice (b : Byte) (s : State) : StepOutcome := finish (.bool (isVoiceByte b)) s

/-- IS_REALTIME (R212). -/
def execIsRealtime (b : Byte) (s : State) : StepOutcome := finish (.bool (isRealtimeByte b)) s

/-- CLASSIFY (R213). -/
def execClassify (b : Byte) (s : State) : StepOutcome := conclude ((classifyByte b).map .status) s

/-- EXPECTED_LEN (R214). -/
def execExpectedLen (k : StatusKind) (s : State) : StepOutcome := finish (.nat (expectedLenOf k)) s

/-- CHANNEL_OF (R215). -/
def execChannelOf (b : Byte) (s : State) : StepOutcome := finish (.optNat (channelOfByte b)) s

end Sys2Proof.Machine
end

