-- ==== Sys2Proof/Machine/Codec.lean ====
section
/-! DEFINITION. The message codec CD, combinational (44_codec.md R281 to R309, 30_encoding.md R110 to R112). -/

namespace Sys2Proof.Machine

/-! ### ENCODE -/

/-- The framing code and payload of a message: its row of R110 (R284 to R308). -/
def encodeRow : Message → U4 × List Byte
  | .noteOff ch note velocity => (0x8, [0x8#4 ++ ch, fieldByte note, fieldByte velocity])
  | .noteOn ch note velocity => (0x9, [0x9#4 ++ ch, fieldByte note, fieldByte velocity])
  | .notePressure ch note pressure => (0xA, [0xA#4 ++ ch, fieldByte note, fieldByte pressure])
  | .controlChange ch control value => (0xB, [0xB#4 ++ ch, fieldByte control, fieldByte value])
  | .programChange ch program => (0xC, [0xC#4 ++ ch, fieldByte program])
  | .channelPressure ch pressure => (0xD, [0xD#4 ++ ch, fieldByte pressure])
  | .pitchBend ch value => (0xE, [0xE#4 ++ ch, fieldByte (u14Lsb value), fieldByte (u14Msb value)])
  | .timeCodeQuarterFrame value => (0x2, [0xF1, fieldByte value])
  | .songPositionPointer lsb msb => (0x3, [0xF2, fieldByte lsb, fieldByte msb])
  | .songSelect song => (0x2, [0xF3, fieldByte song])
  | .tuneRequest => (0x5, [0xF6])
  | .timingClock => (0xF, [0xF8])
  | .measureEnd => (0xF, [0xF9])
  | .start => (0xF, [0xFA])
  | .continue_ => (0xF, [0xFB])
  | .stop => (0xF, [0xFC])
  | .activeSensing => (0xF, [0xFE])
  | .systemReset => (0xF, [0xFF])
  | .sysexBegin d0 d1 => (0x4, [0xF0, fieldByte d0, fieldByte d1])
  | .sysexCont d0 d1 d2 => (0x4, [fieldByte d0, fieldByte d1, fieldByte d2])
  | .sysexEnd => (0x5, [0xF7])
  | .sysexEnd1 d0 => (0x6, [fieldByte d0, 0xF7])
  | .sysexEnd2 d0 d1 => (0x7, [fieldByte d0, fieldByte d1, 0xF7])
  | .sysexEmpty => (0x6, [0xF0, 0xF7])
  | .sysexSingleByte d0 => (0x7, [0xF0, fieldByte d0, 0xF7])

/-- The one canonical packet of a message (R281). -/
def packetOfMessage (cable : U4) (m : Message) : Packet := makePacket cable (encodeRow m).1 (encodeRow m).2

/-- ENCODE (R281). -/
def execEncodeMessage (cable : U4) (m : Message) (s : State) : StepOutcome :=
  finish (.packet (packetOfMessage cable m)) s

/-! ### DECODE -/

/-- The channel-voice rows of R112: `b0[7:4] = cin`. -/
def voiceVariant (cin : U4) (b0 : Byte) : Option Variant :=
  if highNibble b0 = cin then
    match cin.toNat with
    | 0x8 => some .noteOff
    | 0x9 => some .noteOn
    | 0xA => some .notePressure
    | 0xB => some .controlChange
    | 0xC => some .programChange
    | 0xD => some .channelPressure
    | 0xE => some .pitchBend
    | _ => none
  else none

/-- The real-time rows of R112. -/
def realtimeVariant (b0 : Byte) : Option Variant :=
  match b0.toNat with
  | 0xF8 => some .timingClock
  | 0xF9 => some .measureEnd
  | 0xFA => some .start
  | 0xFB => some .continue_
  | 0xFC => some .stop
  | 0xFE => some .activeSensing
  | 0xFF => some .systemReset
  | _ => none

/-- The decode key: the variant a framing code and b0 select, by R112's table. -/
def variantKey (cin : U4) (b0 : Byte) : Option Variant :=
  match cin.toNat with
  | 0x2 => if b0 = 0xF1 then some .timeCodeQuarterFrame else if b0 = 0xF3 then some .songSelect else none
  | 0x3 => if b0 = 0xF2 then some .songPositionPointer else none
  | 0x4 => if b0 = 0xF0 then some .sysexBegin else if isDataByte b0 then some .sysexCont else none
  | 0x5 => if b0 = 0xF6 then some .tuneRequest else if b0 = 0xF7 then some .sysexEnd else none
  | 0x6 => if b0 = 0xF0 then some .sysexEmpty else if isDataByte b0 then some .sysexEnd1 else none
  | 0x7 => if b0 = 0xF0 then some .sysexSingleByte else if isDataByte b0 then some .sysexEnd2 else none
  | 0xF => realtimeVariant b0
  | _ => voiceVariant cin b0

/-- The further structural check of a row of R112: the 0xF7 of a sysex end in its place. -/
def structureOk (v : Variant) (p : Packet) : Bool :=
  match v with
  | .sysexEmpty => decide (p.b1 = 0xF7)
  | .sysexEnd1 => decide (p.b1 = 0xF7)
  | .sysexSingleByte => decide (p.b2 = 0xF7)
  | .sysexEnd2 => decide (p.b2 = 0xF7)
  | _ => true

/-- The message with one 7-bit data field read from `x` (R283). -/
def readOne (policy : DataPolicy) (f : U7 → Message) (x : Byte) : Option Message := (d7 policy x).map f

/-- The message with two 7-bit data fields read from `x` and `y` (R283). -/
def readTwo (policy : DataPolicy) (f : U7 → U7 → Message) (x y : Byte) : Option Message :=
  match d7 policy x, d7 policy y with
  | some a, some b => some (f a b)
  | _, _ => none

/-- PitchBend's value, `U14_FROM_PAIR(b2, b1)` under either policy (R290). -/
def readBend (ch : U4) (b1 b2 : Byte) : Option Message :=
  match u14FromBytes b2 b1 with
  | .ok value => some (.pitchBend ch value)
  | .error _ => none

/-- The fields of each variant, read from the packet (R284 to R308); `none` where a field read fails. -/
def readMessage (policy : DataPolicy) (v : Variant) (p : Packet) : Option Message :=
  match v with
  | .noteOff => readTwo policy (.noteOff (lowNibble p.b0)) p.b1 p.b2
  | .noteOn => readTwo policy (.noteOn (lowNibble p.b0)) p.b1 p.b2
  | .notePressure => readTwo policy (.notePressure (lowNibble p.b0)) p.b1 p.b2
  | .controlChange => readTwo policy (.controlChange (lowNibble p.b0)) p.b1 p.b2
  | .programChange => readOne policy (.programChange (lowNibble p.b0)) p.b1
  | .channelPressure => readOne policy (.channelPressure (lowNibble p.b0)) p.b1
  | .pitchBend => readBend (lowNibble p.b0) p.b1 p.b2
  | .timeCodeQuarterFrame => readOne policy .timeCodeQuarterFrame p.b1
  | .songPositionPointer => readTwo policy .songPositionPointer p.b1 p.b2
  | .songSelect => readOne policy .songSelect p.b1
  | .tuneRequest => some .tuneRequest
  | .timingClock => some .timingClock
  | .measureEnd => some .measureEnd
  | .start => some .start
  | .continue_ => some .continue_
  | .stop => some .stop
  | .activeSensing => some .activeSensing
  | .systemReset => some .systemReset
  | .sysexBegin => readTwo policy .sysexBegin p.b1 p.b2
  | .sysexCont => readTwo policy (.sysexCont (bodyField p.b0)) p.b1 p.b2
  | .sysexEnd => some .sysexEnd
  | .sysexEnd1 => some (.sysexEnd1 (bodyField p.b0))
  | .sysexEnd2 => readOne policy (.sysexEnd2 (bodyField p.b0)) p.b1
  | .sysexEmpty => some .sysexEmpty
  | .sysexSingleByte => readOne policy .sysexSingleByte p.b1

/-- A packet read as a given variant: the structural check, then the fields; any failure is BadPacket (R282). -/
def decodeAs (policy : DataPolicy) (v : Variant) (p : Packet) : Except ErrorKind Message :=
  if structureOk v p then
    match readMessage policy v p with
    | some m => .ok m
    | none => .error (.badPacket p)
  else .error (.badPacket p)

/-- DECODE's pseudocode (R282): the row by the key, BadPacket where none matches (R309). -/
def messageOfPacket (policy : DataPolicy) (p : Packet) : Except ErrorKind Message :=
  match variantKey p.cin p.b0 with
  | some v => decodeAs policy v p
  | none => .error (.badPacket p)

/-- DECODE (R282). -/
def execDecodePacket (p : Packet) (s : State) : StepOutcome :=
  conclude ((messageOfPacket s.params.decodeDataPolicy p).map .message) s

end Sys2Proof.Machine
end

