-- ==== Sys2Proof/Machine/Tokens.lean ====
section
/-! DEFINITION. The sysex token language: flattening, framing, the generator TG and the matcher TM (46_sysex_tokens.md
R370 to R381). -/

namespace Sys2Proof.Machine

/-! ### Flattening and framing -/

/-- The number of bytes a token consumes or produces (R115). A field type the spec does not name has no width; no
well-formed program holds one (R116). -/
def tokenWidth : Token → Nat
  | .skip n => n
  | .val _ => 1
  | .seq bs => bs.length
  | .cap (.bytes w) => w
  | .cap (.other _) => 0

/-- The bytes a token generates: zeros for Skip and Cap (R371). -/
def tokenBytes : Token → List Byte
  | .skip n => List.replicate n 0x00
  | .val b => [b]
  | .seq bs => bs
  | .cap (.bytes w) => List.replicate w 0x00
  | .cap (.other _) => []

/-- The flat byte list of a program (R371). -/
def flatten : List Token → List Byte
  | [] => []
  | t :: ts => tokenBytes t ++ flatten ts

/-- The fragments after SysexBegin: three body bytes each, then the end the remainder selects (R372). -/
def frameRest : List U7 → List Message
  | [] => [.sysexEnd]
  | [a] => [.sysexEnd1 a]
  | [a, b] => [.sysexEnd2 a b]
  | a :: b :: c :: rest => .sysexCont a b c :: frameRest rest

/-- The fragment messages of one run with the given body (R372). -/
def frameBody : List U7 → List Message
  | [] => [.sysexEmpty]
  | [a] => [.sysexSingleByte a]
  | a :: b :: rest => .sysexBegin a b :: frameRest rest

/-- TOKEN_FRAME on bytes below 0x80 (R372). -/
def frame (d : List Byte) : List Message := frameBody (d.map bodyField)

/-- TOKEN_FLATTEN (R371). A program that is not well-formed is refused (R116). -/
def execTokenFlatten (program : List Token) (s : State) : StepOutcome :=
  if programWellFormed program then finish (.bytes (flatten program)) s else .refused .illFormedProgram

/-- TOKEN_FRAME (R372). A byte of 0x80 or more is refused. -/
def execTokenFrame (d : List Byte) (s : State) : StepOutcome :=
  if d.all isBodyByte then finish (.messages (frame d)) s else .refused .frameByte

/-! ### Generator -/

/-- GEN_START (R373). A program that is not well-formed is refused (R116). -/
def execGenStart (program : List Token) (cable : U4) (s : State) : StepOutcome :=
  if programWellFormed program then
    finish .unit (((s.setTgMsgs (frame (flatten program))).setTgCable cable).setTgK 0)
  else .refused .illFormedProgram

/-- GEN_NEXT (R374): once finished it keeps returning `ok(none)`. R38 keeps `TG.k` at most the length; past it there is
no message either (notes/assumptions/15.md). -/
def execGenNext (s : State) : StepOutcome :=
  match s.tgMsgs[s.tgK]? with
  | none => finish (.optPacket none) s
  | some m => finish (.optPacket (some (packetOfMessage s.tgCable m))) (s.setTgK (s.tgK + 1))

/-- GEN_RESTART (R375). -/
def execGenRestart (s : State) : StepOutcome := finish .unit (s.setTgK 0)

/-! ### Matcher -/

/-- `pos` and `caps`, which live only inside MATCH (R376). -/
structure MatchState where
  pos : Nat
  caps : List CaptureRecord
  deriving DecidableEq, Repr

/-- One token of the walk (R377 to R380); `none` is NoMatch. -/
def matchToken (buf : List Byte) (t : Token) (w : MatchState) : Option MatchState :=
  match t with
  | .skip n => if buf.length < w.pos + n then none else some { w with pos := w.pos + n }
  | .val b => if buf[w.pos]? = some b then some { w with pos := w.pos + 1 } else none
  | .seq bs =>
    if w.pos + bs.length ≤ buf.length ∧ (buf.drop w.pos).take bs.length = bs then
      some { w with pos := w.pos + bs.length }
    else none
  | .cap (.bytes n) =>
    if buf.length < w.pos + n then none
    else some { pos := w.pos + n, caps := w.caps ++ [{ offset := w.pos, width := n }] }
  | .cap (.other _) => none

/-- The walk over the program's tokens, in order (R376). -/
def matchTokens (buf : List Byte) : List Token → MatchState → Option MatchState
  | [], w => some w
  | t :: ts, w =>
    match matchToken buf t w with
    | none => none
    | some w => matchTokens buf ts w

/-- MATCH's result: the captures if the whole buffer is consumed exactly (R376, R381). -/
def matchBuffer (buf : List Byte) (program : List Token) : Except ErrorKind (List CaptureRecord) :=
  match matchTokens buf program { pos := 0, caps := [] } with
  | none => .error .noMatch
  | some w => if w.pos = buf.length then .ok w.caps else .error .noMatch

/-- MATCH (R376). A program that is not well-formed is refused (R116). -/
def execMatchProgram (buf : List Byte) (program : List Token) (s : State) : StepOutcome :=
  if programWellFormed program then conclude ((matchBuffer buf program).map .records) s
  else .refused .illFormedProgram

end Sys2Proof.Machine
end

