-- ==== Sys2Proof/Machine/UsbPackets.lean ====
section
/-! DEFINITION. The packet patterns of the USB input, one meaning per row: the decode direction of that variant's rule
(44_codec.md R284 to R308) on the packet whose bits the row and its free fields give (30_encoding.md R112). -/

namespace Sys2Proof.Machine

/-- The decode of a packet as the variant its row names (R282). -/
def decodeRow (v : Variant) (p : Packet) (s : State) : StepOutcome :=
  conclude ((decodeAs s.params.decodeDataPolicy v p).map .message) s

/-- PKT.NoteOff (R284). -/
def execPktNoteOff (cable ch : U4) (b1 b2 : Byte) (s : State) : StepOutcome :=
  decodeRow .noteOff { cable, cin := 0x8, b0 := 0x8#4 ++ ch, b1, b2 } s

/-- PKT.NoteOn (R285). -/
def execPktNoteOn (cable ch : U4) (b1 b2 : Byte) (s : State) : StepOutcome :=
  decodeRow .noteOn { cable, cin := 0x9, b0 := 0x9#4 ++ ch, b1, b2 } s

/-- PKT.NotePressure (R286). -/
def execPktNotePressure (cable ch : U4) (b1 b2 : Byte) (s : State) : StepOutcome :=
  decodeRow .notePressure { cable, cin := 0xA, b0 := 0xA#4 ++ ch, b1, b2 } s

/-- PKT.ControlChange (R287). -/
def execPktControlChange (cable ch : U4) (b1 b2 : Byte) (s : State) : StepOutcome :=
  decodeRow .controlChange { cable, cin := 0xB, b0 := 0xB#4 ++ ch, b1, b2 } s

/-- PKT.ProgramChange (R288). -/
def execPktProgramChange (cable ch : U4) (b1 b2 : Byte) (s : State) : StepOutcome :=
  decodeRow .programChange { cable, cin := 0xC, b0 := 0xC#4 ++ ch, b1, b2 } s

/-- PKT.ChannelPressure (R289). -/
def execPktChannelPressure (cable ch : U4) (b1 b2 : Byte) (s : State) : StepOutcome :=
  decodeRow .channelPressure { cable, cin := 0xD, b0 := 0xD#4 ++ ch, b1, b2 } s

/-- PKT.PitchBend (R290). -/
def execPktPitchBend (cable ch : U4) (b1 b2 : Byte) (s : State) : StepOutcome :=
  decodeRow .pitchBend { cable, cin := 0xE, b0 := 0xE#4 ++ ch, b1, b2 } s

/-- PKT.TimeCodeQuarterFrame (R291). -/
def execPktTimeCodeQuarterFrame (cable : U4) (b1 b2 : Byte) (s : State) : StepOutcome :=
  decodeRow .timeCodeQuarterFrame { cable, cin := 0x2, b0 := 0xF1, b1, b2 } s

/-- PKT.SongSelect (R293). -/
def execPktSongSelect (cable : U4) (b1 b2 : Byte) (s : State) : StepOutcome :=
  decodeRow .songSelect { cable, cin := 0x2, b0 := 0xF3, b1, b2 } s

/-- PKT.SongPositionPointer (R292). -/
def execPktSongPositionPointer (cable : U4) (b1 b2 : Byte) (s : State) : StepOutcome :=
  decodeRow .songPositionPointer { cable, cin := 0x3, b0 := 0xF2, b1, b2 } s

/-- PKT.SysexBegin (R302). -/
def execPktSysexBegin (cable : U4) (b1 b2 : Byte) (s : State) : StepOutcome :=
  decodeRow .sysexBegin { cable, cin := 0x4, b0 := 0xF0, b1, b2 } s

/-- PKT.SysexCont (R303). -/
def execPktSysexCont (cable : U4) (d0 : U7) (b1 b2 : Byte) (s : State) : StepOutcome :=
  decodeRow .sysexCont { cable, cin := 0x4, b0 := fieldByte d0, b1, b2 } s

/-- PKT.TuneRequest (R294). -/
def execPktTuneRequest (cable : U4) (b1 b2 : Byte) (s : State) : StepOutcome :=
  decodeRow .tuneRequest { cable, cin := 0x5, b0 := 0xF6, b1, b2 } s

/-- PKT.SysexEnd (R304). -/
def execPktSysexEnd (cable : U4) (b1 b2 : Byte) (s : State) : StepOutcome :=
  decodeRow .sysexEnd { cable, cin := 0x5, b0 := 0xF7, b1, b2 } s

/-- PKT.SysexEmpty (R307). -/
def execPktSysexEmpty (cable : U4) (b2 : Byte) (s : State) : StepOutcome :=
  decodeRow .sysexEmpty { cable, cin := 0x6, b0 := 0xF0, b1 := 0xF7, b2 } s

/-- PKT.SysexEnd1 (R305). -/
def execPktSysexEnd1 (cable : U4) (d0 : U7) (b2 : Byte) (s : State) : StepOutcome :=
  decodeRow .sysexEnd1 { cable, cin := 0x6, b0 := fieldByte d0, b1 := 0xF7, b2 } s

/-- PKT.SysexSingleByte (R308). -/
def execPktSysexSingleByte (cable : U4) (b1 : Byte) (s : State) : StepOutcome :=
  decodeRow .sysexSingleByte { cable, cin := 0x7, b0 := 0xF0, b1, b2 := 0xF7 } s

/-- PKT.SysexEnd2 (R306). -/
def execPktSysexEnd2 (cable : U4) (d0 : U7) (b1 : Byte) (s : State) : StepOutcome :=
  decodeRow .sysexEnd2 { cable, cin := 0x7, b0 := fieldByte d0, b1, b2 := 0xF7 } s

/-- PKT.TimingClock (R295). -/
def execPktTimingClock (cable : U4) (b1 b2 : Byte) (s : State) : StepOutcome :=
  decodeRow .timingClock { cable, cin := 0xF, b0 := 0xF8, b1, b2 } s

/-- PKT.MeasureEnd (R296). -/
def execPktMeasureEnd (cable : U4) (b1 b2 : Byte) (s : State) : StepOutcome :=
  decodeRow .measureEnd { cable, cin := 0xF, b0 := 0xF9, b1, b2 } s

/-- PKT.Start (R297). -/
def execPktStart (cable : U4) (b1 b2 : Byte) (s : State) : StepOutcome :=
  decodeRow .start { cable, cin := 0xF, b0 := 0xFA, b1, b2 } s

/-- PKT.Continue (R298). -/
def execPktContinue (cable : U4) (b1 b2 : Byte) (s : State) : StepOutcome :=
  decodeRow .continue_ { cable, cin := 0xF, b0 := 0xFB, b1, b2 } s

/-- PKT.Stop (R299). -/
def execPktStop (cable : U4) (b1 b2 : Byte) (s : State) : StepOutcome :=
  decodeRow .stop { cable, cin := 0xF, b0 := 0xFC, b1, b2 } s

/-- PKT.ActiveSensing (R300). -/
def execPktActiveSensing (cable : U4) (b1 b2 : Byte) (s : State) : StepOutcome :=
  decodeRow .activeSensing { cable, cin := 0xF, b0 := 0xFE, b1, b2 } s

/-- PKT.SystemReset (R301). -/
def execPktSystemReset (cable : U4) (b1 b2 : Byte) (s : State) : StepOutcome :=
  decodeRow .systemReset { cable, cin := 0xF, b0 := 0xFF, b1, b2 } s

end Sys2Proof.Machine
end

