-- ==== Sys2Proof/Machine/Dispatch.lean ====
section
/-! DEFINITION. The dispatch: one arm per constructor of Instr, in the order of spec/opcode_table.json. -/

namespace Sys2Proof.Machine

def exec (i : Instr) (s : State) : Host.Outcome State Fault Refusal :=
  match i with
  | .cull n wide => Sys2Proof.Machine.execCull n wide s
  | .fill n wide => Sys2Proof.Machine.execFill n wide s
  | .fromDirect n wide => Sys2Proof.Machine.execFromDirect n wide s
  | .toWide n v => Sys2Proof.Machine.execToWide n v s
  | .u14FromPair msb lsb => Sys2Proof.Machine.execU14FromPair msb lsb s
  | .u14ToPair v => Sys2Proof.Machine.execU14ToPair v s
  | .channelFromExternal e => Sys2Proof.Machine.execChannelFromExternal e s
  | .channelToExternal c => Sys2Proof.Machine.execChannelToExternal c s
  | .cableFromInt x => Sys2Proof.Machine.execCableFromInt x s
  | .cinFromInt x => Sys2Proof.Machine.execCinFromInt x s
  | .packetMake cable cin bytes => Sys2Proof.Machine.execPacketMake cable cin bytes s
  | .packetFromWire w0 w1 w2 w3 => Sys2Proof.Machine.execPacketFromWire w0 w1 w2 w3 s
  | .packetToWire p => Sys2Proof.Machine.execPacketToWire p s
  | .payloadLen cin => Sys2Proof.Machine.execPayloadLen cin s
  | .packetPayload p => Sys2Proof.Machine.execPacketPayload p s
  | .isData b => Sys2Proof.Machine.execIsData b s
  | .isStatus b => Sys2Proof.Machine.execIsStatus b s
  | .isChannelVoice b => Sys2Proof.Machine.execIsChannelVoice b s
  | .isRealtime b => Sys2Proof.Machine.execIsRealtime b s
  | .classify b => Sys2Proof.Machine.execClassify b s
  | .expectedLen k => Sys2Proof.Machine.execExpectedLen k s
  | .channelOf b => Sys2Proof.Machine.execChannelOf b s
  | .rcPack payload => Sys2Proof.Machine.execRcPack payload s
  | .rcSerialize p => Sys2Proof.Machine.execRcSerialize p s
  | .rcReset => Sys2Proof.Machine.execRcReset s
  | .parseByte b => Sys2Proof.Machine.execParseByte b s
  | .parserReset => Sys2Proof.Machine.execParserReset s
  | .encodeMessage cable m => Sys2Proof.Machine.execEncodeMessage cable m s
  | .decodePacket p => Sys2Proof.Machine.execDecodePacket p s
  | .captureStep m => Sys2Proof.Machine.execCaptureStep m s
  | .captureRead => Sys2Proof.Machine.execCaptureRead s
  | .captureClear => Sys2Proof.Machine.execCaptureClear s
  | .tokenFlatten program => Sys2Proof.Machine.execTokenFlatten program s
  | .tokenFrame d => Sys2Proof.Machine.execTokenFrame d s
  | .genStart program cable => Sys2Proof.Machine.execGenStart program cable s
  | .genNext => Sys2Proof.Machine.execGenNext s
  | .genRestart => Sys2Proof.Machine.execGenRestart s
  | .matchProgram buf program => Sys2Proof.Machine.execMatchProgram buf program s
  | .byteNoteOff ch => Sys2Proof.Machine.execByteNoteOff ch s
  | .byteNoteOn ch => Sys2Proof.Machine.execByteNoteOn ch s
  | .byteNotePressure ch => Sys2Proof.Machine.execByteNotePressure ch s
  | .byteControlChange ch => Sys2Proof.Machine.execByteControlChange ch s
  | .byteProgramChange ch => Sys2Proof.Machine.execByteProgramChange ch s
  | .byteChannelPressure ch => Sys2Proof.Machine.execByteChannelPressure ch s
  | .bytePitchBend ch => Sys2Proof.Machine.execBytePitchBend ch s
  | .byteSysexStart => Sys2Proof.Machine.execByteSysexStart s
  | .byteTimeCodeQuarterFrame => Sys2Proof.Machine.execByteTimeCodeQuarterFrame s
  | .byteSongPositionPointer => Sys2Proof.Machine.execByteSongPositionPointer s
  | .byteSongSelect => Sys2Proof.Machine.execByteSongSelect s
  | .byteUndefinedF4 => Sys2Proof.Machine.execByteUndefinedF4 s
  | .byteUndefinedF5 => Sys2Proof.Machine.execByteUndefinedF5 s
  | .byteTuneRequest => Sys2Proof.Machine.execByteTuneRequest s
  | .byteSysexEndInSysex => Sys2Proof.Machine.execByteSysexEndInSysex s
  | .byteSysexEndSpurious => Sys2Proof.Machine.execByteSysexEndSpurious s
  | .byteTimingClock => Sys2Proof.Machine.execByteTimingClock s
  | .byteMeasureEnd => Sys2Proof.Machine.execByteMeasureEnd s
  | .byteStart => Sys2Proof.Machine.execByteStart s
  | .byteContinue => Sys2Proof.Machine.execByteContinue s
  | .byteStop => Sys2Proof.Machine.execByteStop s
  | .byteUndefinedFD => Sys2Proof.Machine.execByteUndefinedFD s
  | .byteActiveSensing => Sys2Proof.Machine.execByteActiveSensing s
  | .byteSystemReset => Sys2Proof.Machine.execByteSystemReset s
  | .byteDataIdle v => Sys2Proof.Machine.execByteDataIdle v s
  | .byteDataAwaitingData v => Sys2Proof.Machine.execByteDataAwaitingData v s
  | .byteDataInSysex v => Sys2Proof.Machine.execByteDataInSysex v s
  | .pktNoteOff cable ch b1 b2 => Sys2Proof.Machine.execPktNoteOff cable ch b1 b2 s
  | .pktNoteOn cable ch b1 b2 => Sys2Proof.Machine.execPktNoteOn cable ch b1 b2 s
  | .pktNotePressure cable ch b1 b2 => Sys2Proof.Machine.execPktNotePressure cable ch b1 b2 s
  | .pktControlChange cable ch b1 b2 => Sys2Proof.Machine.execPktControlChange cable ch b1 b2 s
  | .pktProgramChange cable ch b1 b2 => Sys2Proof.Machine.execPktProgramChange cable ch b1 b2 s
  | .pktChannelPressure cable ch b1 b2 => Sys2Proof.Machine.execPktChannelPressure cable ch b1 b2 s
  | .pktPitchBend cable ch b1 b2 => Sys2Proof.Machine.execPktPitchBend cable ch b1 b2 s
  | .pktTimeCodeQuarterFrame cable b1 b2 => Sys2Proof.Machine.execPktTimeCodeQuarterFrame cable b1 b2 s
  | .pktSongSelect cable b1 b2 => Sys2Proof.Machine.execPktSongSelect cable b1 b2 s
  | .pktSongPositionPointer cable b1 b2 => Sys2Proof.Machine.execPktSongPositionPointer cable b1 b2 s
  | .pktSysexBegin cable b1 b2 => Sys2Proof.Machine.execPktSysexBegin cable b1 b2 s
  | .pktSysexCont cable d0 b1 b2 => Sys2Proof.Machine.execPktSysexCont cable d0 b1 b2 s
  | .pktTuneRequest cable b1 b2 => Sys2Proof.Machine.execPktTuneRequest cable b1 b2 s
  | .pktSysexEnd cable b1 b2 => Sys2Proof.Machine.execPktSysexEnd cable b1 b2 s
  | .pktSysexEmpty cable b2 => Sys2Proof.Machine.execPktSysexEmpty cable b2 s
  | .pktSysexEnd1 cable d0 b2 => Sys2Proof.Machine.execPktSysexEnd1 cable d0 b2 s
  | .pktSysexSingleByte cable b1 => Sys2Proof.Machine.execPktSysexSingleByte cable b1 s
  | .pktSysexEnd2 cable d0 b1 => Sys2Proof.Machine.execPktSysexEnd2 cable d0 b1 s
  | .pktTimingClock cable b1 b2 => Sys2Proof.Machine.execPktTimingClock cable b1 b2 s
  | .pktMeasureEnd cable b1 b2 => Sys2Proof.Machine.execPktMeasureEnd cable b1 b2 s
  | .pktStart cable b1 b2 => Sys2Proof.Machine.execPktStart cable b1 b2 s
  | .pktContinue cable b1 b2 => Sys2Proof.Machine.execPktContinue cable b1 b2 s
  | .pktStop cable b1 b2 => Sys2Proof.Machine.execPktStop cable b1 b2 s
  | .pktActiveSensing cable b1 b2 => Sys2Proof.Machine.execPktActiveSensing cable b1 b2 s
  | .pktSystemReset cable b1 b2 => Sys2Proof.Machine.execPktSystemReset cable b1 b2 s

end Sys2Proof.Machine
end

