-- ==== Sys2Proof/Machine/Step.lean ====
section
/-! DEFINITION. One step of the machine: it takes the caller's next event (notes/assumptions/1.md), decodes the input in
the parser's form and runs the instruction; and where withFetchWord places a word of spec/opcode_table.json. -/

namespace Sys2Proof.Machine

/-- The refusal of an input that is no instruction (R119, R409). -/
def refusalOf : DecodeError → Refusal
  | .unassignedCode code => .unassignedCode code
  | .operandType code => .operandType code

/-- One step. With nothing pending the block waits and nothing changes (R441). Two unordered operations on one unit are
refused (R81, R443); on two units their order is not observable (R80) and they are issued one after the other. A caller
write to the capture storage is refused (R84, R443). -/
def step (s : State) : Host.Outcome State Fault Refusal :=
  match s.pending with
  | [] => .next s
  | .issue x :: rest =>
    match decode s.pu.mode x with
    | .ok i => exec i (s.setPending rest)
    | .error e => .refused (refusalOf e)
  | .unordered x y :: rest =>
    if unitOf x = unitOf y then .refused .unorderedOperations
    else .next (s.setPending (.issue x :: .issue y :: rest))
  | .callerWrite _ _ :: _ => .refused .callerWrite

/-- The state with a word of spec/opcode_table.json as the next input the caller issues. -/
def State.withFetchWord (s : State) (nbits w : Nat) : State :=
  s.setPending (.issue (tableInput nbits w) :: s.pending)

end Sys2Proof.Machine
end

