-- ==== Sys2Proof/Safety.lean ====
section
/-! DEFINITION. The terms claims use: the invariants of 10_state.md (R32, R34, R35, R36, R38), what a run of
instructions is and what it gives its caller, and the hypotheses of the laws over streams (R219, R253, R352, R383). -/

namespace Sys2Proof.Machine

/-! ### Invariants -/

/-- R32: a status that awaits data is a channel-voice status or one of 0xF1, 0xF2, 0xF3. -/
def awaitsData (b : Byte) : Bool := isVoiceByte b || decide (b = 0xF1 ∨ b = 0xF2 ∨ b = 0xF3)

/-- The length of a status byte's message, 0 for a byte CLASSIFY rejects (R213, R214). -/
def messageLength (b : Byte) : Nat :=
  match classifyByte b with
  | .ok k => expectedLenOf k
  | .error _ => 0

/-- R32: the first scratch byte of a run may be 0xF0, every other is below 0x80. -/
def sysexScratchOk : List Byte → Bool
  | [] => true
  | b :: bs => (decide (b = 0xF0) || isDataByte b) && bs.all isDataByte

/-- The invariant of `PU.state` (R32). -/
def ParserState.inv : ParserState → Bool
  | .idle => true
  | .awaitingData status collected =>
    awaitsData status && collected.all isDataByte && decide (collected.length < messageLength status - 1)
  | .inSysex collected => decide (collected.length ≤ 2) && sysexScratchOk collected

/-- The invariant of `RC.last_status` (R34). -/
def compressorInv : Option Byte → Bool
  | none => true
  | some b => isVoiceByte b

/-- A message is a sysex fragment (R280). -/
def isSysexFragment : Message → Bool
  | .sysexBegin _ _ => true
  | .sysexCont _ _ _ => true
  | .sysexEnd => true
  | .sysexEnd1 _ => true
  | .sysexEnd2 _ _ => true
  | .sysexEmpty => true
  | .sysexSingleByte _ => true
  | _ => false

/-- A message is a real-time message (R280). -/
def isRealtimeMessage : Message → Bool
  | .timingClock => true
  | .measureEnd => true
  | .start => true
  | .continue_ => true
  | .stop => true
  | .activeSensing => true
  | .systemReset => true
  | _ => false

/-- The invariants of the generator: `TG.msgs` holds sysex fragments and `TG.k` is at most their number (R38). -/
def generatorInv (msgs : List Message) (k : Nat) : Bool := msgs.all isSysexFragment && decide (k ≤ msgs.length)

/-- The invariants of every unit together. -/
def State.inv (s : State) : Bool :=
  s.pu.inv && compressorInv s.rcLast && Memory.wf s.params.captureCapacity s.scBuf && generatorInv s.tgMsgs s.tgK

/-! ### Runs of instructions -/

/-- The instructions run in order, each in the state the one before left (R80): the results in order and the last state.
A fault or a refusal ends the run. -/
def runInstrs : List Instr → State → Host.Outcome (List OpResult × State) Fault Refusal
  | [], s => .next ([], s)
  | i :: is, s =>
    match exec i s with
    | .fault r => .fault r
    | .refused r => .refused r
    | .next t =>
      match runInstrs is t with
      | .fault r => .fault r
      | .refused r => .refused r
      | .next (results, u) => .next (t.output.toList ++ results, u)

/-- A stream of serial bytes fed to the parser (R240). -/
def parseAll (bytes : List Byte) : List Instr := bytes.map .parseByte

/-- Messages fed to the capture unit (R340). -/
def captureAll (ms : List Message) : List Instr := ms.map .captureStep

/-- The packets a list of results yields (R240, R374). -/
def packetsOf : List OpResult → List Packet
  | [] => []
  | .ok (.optPacket (some p)) :: rs => p :: packetsOf rs
  | .ok _ :: rs => packetsOf rs
  | .err _ :: rs => packetsOf rs

/-- The bytes a list of results yields (R216). -/
def bytesOf : List OpResult → List Byte
  | [] => []
  | .ok (.bytes bs) :: rs => bs ++ bytesOf rs
  | .ok _ :: rs => bytesOf rs
  | .err _ :: rs => bytesOf rs

/-- A result is `ok`. -/
def isOk : OpResult → Bool
  | .ok _ => true
  | .err _ => false

/-! ### Hypotheses of the laws -/

/-- The sysex fragments of a message list form complete runs with only real-time messages inside a run (R219); the
Boolean says whether a run is open. -/
def completeRuns : Bool → List Message → Bool
  | inRun, [] => !inRun
  | false, m :: ms =>
    match m with
    | .sysexBegin _ _ => completeRuns true ms
    | .sysexEmpty => completeRuns false ms
    | .sysexSingleByte _ => completeRuns false ms
    | .sysexCont _ _ _ => false
    | .sysexEnd => false
    | .sysexEnd1 _ => false
    | .sysexEnd2 _ _ => false
    | _ => completeRuns false ms
  | true, m :: ms =>
    match m with
    | .sysexCont _ _ _ => completeRuns true ms
    | .sysexEnd => completeRuns false ms
    | .sysexEnd1 _ => completeRuns false ms
    | .sysexEnd2 _ _ => completeRuns false ms
    | m => isRealtimeMessage m && completeRuns true ms

/-- The RC_SERIALIZE operations that send messages on cable 0 (R219): each packs the packet's meaningful bytes (R217). -/
def serializeAll (ms : List Message) : List Instr := ms.map fun m => .rcSerialize (packetOfMessage 0 m)

/-- The widths of the tokens (R115) and the capture records a program gives from a starting offset: for each
`Cap(Bytes(w))`, `w` at the sum of the widths before it (R382). -/
def expectedCaps : Nat → List Token → List CaptureRecord
  | _, [] => []
  | o, t :: ts =>
    match t with
    | .cap (.bytes w) => { offset := o, width := w } :: expectedCaps (o + w) ts
    | t => expectedCaps (o + tokenWidth t) ts

/-- A packet is consistent: the ENCODE image of some message (R195). -/
def Consistent (p : Packet) : Prop := ∃ m, p = packetOfMessage p.cable m

/-- The bytes of a packet in the data positions of a message's row (R111); PitchBend's are read by U14_FROM_PAIR under
either policy and are left out. -/
def dataPositions (m : Message) (p : Packet) : List Byte :=
  match m with
  | .noteOff _ _ _ => [p.b1, p.b2]
  | .noteOn _ _ _ => [p.b1, p.b2]
  | .notePressure _ _ _ => [p.b1, p.b2]
  | .controlChange _ _ _ => [p.b1, p.b2]
  | .programChange _ _ => [p.b1]
  | .channelPressure _ _ => [p.b1]
  | .timeCodeQuarterFrame _ => [p.b1]
  | .songPositionPointer _ _ => [p.b1, p.b2]
  | .songSelect _ => [p.b1]
  | .sysexBegin _ _ => [p.b1, p.b2]
  | .sysexCont _ _ _ => [p.b1, p.b2]
  | .sysexEnd2 _ _ => [p.b1]
  | .sysexSingleByte _ => [p.b1]
  | _ => []

/-- The bytes of a packet in the unused positions of a message's row (R111). -/
def unusedPositions (m : Message) (p : Packet) : List Byte :=
  match m with
  | .programChange _ _ => [p.b2]
  | .channelPressure _ _ => [p.b2]
  | .timeCodeQuarterFrame _ => [p.b2]
  | .songSelect _ => [p.b2]
  | .tuneRequest => [p.b1, p.b2]
  | .timingClock => [p.b1, p.b2]
  | .measureEnd => [p.b1, p.b2]
  | .start => [p.b1, p.b2]
  | .continue_ => [p.b1, p.b2]
  | .stop => [p.b1, p.b2]
  | .activeSensing => [p.b1, p.b2]
  | .systemReset => [p.b1, p.b2]
  | .sysexEnd => [p.b1, p.b2]
  | .sysexEnd1 _ => [p.b2]
  | .sysexEmpty => [p.b2]
  | _ => []

/-- What a token matches: Skip and Cap any bytes of their width, Val and Seq their literals (R377 to R380). -/
def tokenMatches (t : Token) (segment : List Byte) : Prop :=
  match t with
  | .skip n => segment.length = n
  | .val b => segment = [b]
  | .seq bs => segment = bs
  | .cap (.bytes w) => segment.length = w
  | .cap (.other _) => False

/-- A buffer is the program's segments one after the other, each matched by its token. -/
def segmented : List Token → List Byte → Prop
  | [], buf => buf = []
  | t :: ts, buf => ∃ segment rest, buf = segment ++ rest ∧ tokenMatches t segment ∧ segmented ts rest

end Sys2Proof.Machine
end

