-- ==== Sys2Proof/Certificates/Slice0/Obligations.lean ====
section
/-! DEFINITION. The statements, from the numbered rules of spec/. `Stated` holds the tables and abbreviations of the
rules that the statements share, written from the spec's tables and not from the model's definitions. The result of an
operation stands in the model's field `output` (notes/assumptions/2.md) and operands stand in an `Input`
(notes/assumptions/5.md): those two are the model's form of the rules' "return" and "Operands". A statement that says
"derived" follows from rules together, from an inference the spec marks as its own, or from a convention of the model. -/

open Sys2Proof Sys2Proof.Machine

namespace Sys2Proof.Stated

/-- The PAYLOAD_LEN column of R108, by framing code. -/
def payloadLens : List (Option Nat) :=
  [none, none, some 2, some 3, some 3, some 1, some 2, some 3, some 3, some 3, some 3, some 3, some 2, some 2, some 3,
    some 1]

/-- The channel-voice kinds of R102, by kind nibble from 0x8. -/
def voiceKinds : List StatusKind :=
  [.noteOff, .noteOn, .notePressure, .controlChange, .programChange, .channelPressure, .pitchBend]

/-- The kinds of 0xF0 to 0xFF of R102; 0xF7 is no status and its place holds nothing. -/
def systemKinds : List (Option StatusKind) :=
  [some .sysexStart, some .timeCodeQuarterFrame, some .songPositionPointer, some .songSelect, some .undefinedF4,
    some .undefinedF5, some .tuneRequest, none, some .timingClock, some .measureEnd, some .start, some .continue_,
    some .stop, some .undefinedFD, some .activeSensing, some .systemReset]

/-- The status kinds of expected length 3 (R102). -/
def lengthThree : List StatusKind :=
  [.noteOff, .noteOn, .notePressure, .controlChange, .pitchBend, .sysexStart, .songPositionPointer]

/-- The status kinds of expected length 2 (R102). -/
def lengthTwo : List StatusKind := [.programChange, .channelPressure, .timeCodeQuarterFrame, .songSelect]

/-- A channel-voice status byte (R101). -/
def isVoice (b : Byte) : Prop := 0x80 ≤ b.toNat ∧ b.toNat ≤ 0xEF

/-- A status byte whose message has data bytes: channel voice, 0xF1, 0xF2, 0xF3 (R32, R102). -/
def takesData (b : Byte) : Prop := isVoice b ∨ b = 0xF1 ∨ b = 0xF2 ∨ b = 0xF3

/-- The expected length of such a status byte (R102). -/
def lengthOf (b : Byte) : Nat :=
  if (0xC0 ≤ b.toNat ∧ b.toNat ≤ 0xDF) ∨ b = 0xF1 ∨ b = 0xF3 then 2 else 3

/-- The framing code of such a status byte (R249). -/
def cinOf (b : Byte) : U4 :=
  if b = 0xF1 ∨ b = 0xF3 then 0x2 else if b = 0xF2 then 0x3 else BitVec.ofNat 4 (b.toNat >>> 4)

/-- `ok(some packet)` of the parser, the packet on `PARSER_CABLE` (R240). -/
def emitted (s : State) (cin : U4) (b0 b1 b2 : Byte) : Option OpResult :=
  some (.ok (.optPacket (some { cable := s.params.parserCable, cin, b0, b1, b2 })))

/-- `ok(none)` of the parser (R240). -/
def silent : Option OpResult := some (.ok (.optPacket none))

/-- The outcome in which the parser awaits the data bytes of status `b` (R245). -/
def awaits (b : Byte) (s : State) : StepOutcome := .next ((s.setPu (.awaitingData b [])).setOutput silent)

/-- `d7` (R283). -/
def dataRead (policy : DataPolicy) (x : Byte) : Option U7 :=
  if x.toNat < 0x80 then some (BitVec.ofNat 7 x.toNat)
  else if policy = .cull then some (BitVec.ofNat 7 (x.toNat &&& 0x7F))
  else none

/-- A data field as its byte (R110). -/
def field (d : U7) : Byte := BitVec.ofNat 8 d.toNat

/-- ENCODE of `m` gives this framing code and payload, in every state, and nothing else changes (R281). -/
def encodesTo (m : Message) (cin : U4) (b0 b1 b2 : Byte) : Prop :=
  ∀ (cable : U4) (s : State),
    exec (.encodeMessage cable m) s = .next (s.setOutput (some (.ok (.packet { cable, cin, b0, b1, b2 }))))

/-- The result of a DECODE of `p` that reads `m`, or of one that fails (R282). -/
def decoded (p : Packet) (m : Option Message) : OpResult :=
  match m with
  | some m => .ok (.message m)
  | none => .err (.badPacket p)

/-- Both the operation DECODE and the packet pattern `row` read `p` as `m` (failing where `m` is none), and nothing else
changes (R282). -/
def decodesTo (row : Instr) (p : Packet) (m : DataPolicy → Option Message) : Prop :=
  ∀ s : State,
    exec (.decodePacket p) s = .next (s.setOutput (some (decoded p (m s.params.decodeDataPolicy)))) ∧
    exec row s = .next (s.setOutput (some (decoded p (m s.params.decodeDataPolicy))))

/-- Two data fields, both read or the whole failing (R283). -/
def bothRead (policy : DataPolicy) (x y : Byte) (f : U7 → U7 → Message) : Option Message :=
  match dataRead policy x, dataRead policy y with
  | some a, some b => some (f a b)
  | _, _ => none

/-- A channel-voice status byte (R101). -/
def voiceByte (nibble ch : U4) : Byte := BitVec.ofNat 8 (nibble.toNat * 16 + ch.toNat)

/-- The rule of a channel-voice variant with two 7-bit fields (R284 to R287). -/
def voiceTwo (nibble : U4) (f : U4 → U7 → U7 → Message) (row : U4 → U4 → Byte → Byte → Instr) : Prop :=
  ∀ ch : U4,
    (∀ a b : U7, encodesTo (f ch a b) nibble (voiceByte nibble ch) (field a) (field b)) ∧
    (∀ (cable : U4) (b1 b2 : Byte),
      decodesTo (row cable ch b1 b2) { cable, cin := nibble, b0 := voiceByte nibble ch, b1, b2 }
        fun policy => bothRead policy b1 b2 (f ch))

/-- The rule of a channel-voice variant with one 7-bit field (R288, R289); b2 is unused. -/
def voiceOne (nibble : U4) (f : U4 → U7 → Message) (row : U4 → U4 → Byte → Byte → Instr) : Prop :=
  ∀ ch : U4,
    (∀ a : U7, encodesTo (f ch a) nibble (voiceByte nibble ch) (field a) 0) ∧
    (∀ (cable : U4) (b1 b2 : Byte),
      decodesTo (row cable ch b1 b2) { cable, cin := nibble, b0 := voiceByte nibble ch, b1, b2 }
        fun policy => (dataRead policy b1).map (f ch))

/-- The rule of a system-common variant with one field (R291, R293). -/
def commonOne (cin : U4) (b0 : Byte) (f : U7 → Message) (row : U4 → Byte → Byte → Instr) : Prop :=
  (∀ a : U7, encodesTo (f a) cin b0 (field a) 0) ∧
  (∀ (cable : U4) (b1 b2 : Byte),
    decodesTo (row cable b1 b2) { cable, cin, b0, b1, b2 } fun policy => (dataRead policy b1).map f)

/-- The rule of a variant without fields, its status alone in the packet (R294 to R301, R304). -/
def bare (cin : U4) (b0 : Byte) (m : Message) (row : U4 → Byte → Byte → Instr) : Prop :=
  encodesTo m cin b0 0 0 ∧
  (∀ (cable : U4) (b1 b2 : Byte), decodesTo (row cable b1 b2) { cable, cin, b0, b1, b2 } fun _ => some m)

/-- DECODE of `p` fails in every state and nothing else changes (R282). -/
def rejected (p : Packet) : Prop :=
  ∀ s : State, exec (.decodePacket p) s = .next (s.setOutput (some (.err (.badPacket p))))

/-- The mask and match of the 25 packet patterns of spec/opcode_table.json (R112), first wire byte most significant
(R71). -/
def packetRows : List (BitVec 32 × BitVec 32) :=
  [(0x0FF00000, 0x08800000), (0x0FF00000, 0x09900000), (0x0FF00000, 0x0AA00000), (0x0FF00000, 0x0BB00000),
    (0x0FF00000, 0x0CC00000), (0x0FF00000, 0x0DD00000), (0x0FF00000, 0x0EE00000), (0x0FFF0000, 0x02F10000),
    (0x0FFF0000, 0x02F30000), (0x0FFF0000, 0x03F20000), (0x0FFF0000, 0x04F00000), (0x0F800000, 0x04000000),
    (0x0FFF0000, 0x05F60000), (0x0FFF0000, 0x05F70000), (0x0FFFFF00, 0x06F0F700), (0x0F80FF00, 0x0600F700),
    (0x0FFF00FF, 0x07F000F7), (0x0F8000FF, 0x070000F7)]
  ++ [(0x0FFF0000, 0x0FF80000), (0x0FFF0000, 0x0FF90000), (0x0FFF0000, 0x0FFA0000), (0x0FFF0000, 0x0FFB0000),
    (0x0FFF0000, 0x0FFC0000), (0x0FFF0000, 0x0FFE0000), (0x0FFF0000, 0x0FFF0000)]

/-- A packet as one 32-bit value (R71). -/
def packetWord (p : Packet) : BitVec 32 := p.cable ++ p.cin ++ p.b0 ++ p.b1 ++ p.b2

/-- The bytes each token generates (R371). -/
def generated : Token → List Byte
  | .skip n => List.replicate n 0
  | .val b => [b]
  | .seq bs => bs
  | .cap (.bytes w) => List.replicate w 0
  | .cap (.other _) => []

/-- The byte at index `i` of a body as a field. -/
def bodyAt (d : List Byte) (i : Nat) : U7 := BitVec.ofNat 7 (d.getD i 0).toNat

/-- The last message of a run whose unframed remainder starts at index `i` of `d` (R372). -/
def runEnd (d : List Byte) (i : Nat) : Message :=
  if d.length - i = 0 then .sysexEnd
  else if d.length - i = 1 then .sysexEnd1 (bodyAt d i)
  else .sysexEnd2 (bodyAt d i) (bodyAt d (i + 1))

/-- TOKEN_FRAME by index: one SysexBegin, `(n − 2) div 3` SysexCont, one end (R372). -/
def framed (d : List Byte) : List Message :=
  if d.length = 0 then [.sysexEmpty]
  else if d.length = 1 then [.sysexSingleByte (bodyAt d 0)]
  else
    .sysexBegin (bodyAt d 0) (bodyAt d 1) ::
      ((List.range ((d.length - 2) / 3)).map fun j =>
        .sysexCont (bodyAt d (3 * j + 2)) (bodyAt d (3 * j + 3)) (bodyAt d (3 * j + 4))) ++
      [runEnd d (3 * ((d.length - 2) / 3) + 2)]

/-- MATCH's walk with `pos` and `caps`, as R376 to R381 write it; `none` is NoMatch. -/
def walk (buf : List Byte) : Nat → List CaptureRecord → List Token → Option (List CaptureRecord)
  | pos, caps, [] => if pos = buf.length then some caps else none
  | pos, caps, .skip n :: ts => if pos + n > buf.length then none else walk buf (pos + n) caps ts
  | pos, caps, .val b :: ts =>
    if pos ≥ buf.length ∨ buf.getD pos 0 ≠ b then none else walk buf (pos + 1) caps ts
  | pos, caps, .seq bs :: ts =>
    if pos + bs.length > buf.length ∨ (buf.drop pos).take bs.length ≠ bs then none
    else walk buf (pos + bs.length) caps ts
  | pos, caps, .cap (.bytes w) :: ts =>
    if pos + w > buf.length then none else walk buf (pos + w) (caps ++ [{ offset := pos, width := w }]) ts
  | _, _, .cap (.other _) :: _ => none

/-- The operation codes R117 assigns. -/
def assignedCodes : List Nat :=
  [0x01, 0x02, 0x03, 0x04, 0x05, 0x06, 0x07, 0x08, 0x09, 0x0A, 0x10, 0x11, 0x12, 0x13, 0x14, 0x20, 0x21, 0x22, 0x23,
    0x24, 0x25, 0x26] ++
  [0x30, 0x31, 0x32, 0x40, 0x41, 0x50, 0x51, 0x60, 0x61, 0x62, 0x70, 0x71, 0x72, 0x73, 0x74, 0x75]

/-! The operand types of R117, written from its table and the rules it names (R409). -/

/-- A natural of any size (R160). -/
def naturalOperand : Operand → Bool
  | .nat _ => true
  | _ => false

/-- One of the widths 4, 6, 7, 14 (R160). -/
def widthOperand : Operand → Bool
  | .nat n => decide (n ∈ [4, 6, 7, 14])
  | _ => false

/-- A number of `w` bits: a byte, a cable, a framing code, a channel, a U14. -/
def bitsOperand (w : Nat) : Operand → Bool
  | .nat n => decide (n < 2 ^ w)
  | _ => false

/-- A list of bytes. -/
def bytesOperand : Operand → Bool
  | .bytes ns => ns.all fun n => decide (n ≤ 0xFF)
  | _ => false

/-- A packet: two fields of 4 bits and three bytes (R107). -/
def packetFieldsOperand : Operand → Bool
  | .packet cable cin b0 b1 b2 =>
    decide (cable ≤ 15 ∧ cin ≤ 15 ∧ b0 ≤ 0xFF ∧ b1 ≤ 0xFF ∧ b2 ≤ 0xFF)
  | _ => false

/-- A Status kind (R214). -/
def statusOperand : Operand → Bool
  | .status _ => true
  | _ => false

/-- The widths in bits of a variant's fields, in the order of R110 (R280). -/
def fieldWidths : Variant → List Nat
  | .noteOff => [4, 7, 7]
  | .noteOn => [4, 7, 7]
  | .notePressure => [4, 7, 7]
  | .controlChange => [4, 7, 7]
  | .programChange => [4, 7]
  | .channelPressure => [4, 7]
  | .pitchBend => [4, 14]
  | .timeCodeQuarterFrame => [7]
  | .songPositionPointer => [7, 7]
  | .songSelect => [7]
  | .sysexBegin => [7, 7]
  | .sysexCont => [7, 7, 7]
  | .sysexEnd1 => [7]
  | .sysexEnd2 => [7, 7]
  | .sysexSingleByte => [7]
  | .tuneRequest => []
  | .timingClock => []
  | .measureEnd => []
  | .start => []
  | .continue_ => []
  | .stop => []
  | .activeSensing => []
  | .systemReset => []
  | .sysexEnd => []
  | .sysexEmpty => []

/-- The fields fit their widths, one for one. -/
def fieldsFit : List Nat → List Nat → Bool
  | [], [] => true
  | w :: ws, n :: ns => decide (n < 2 ^ w) && fieldsFit ws ns
  | _, _ => false

/-- A message whose fields are in their types (R280). -/
def messageFieldsOperand : Operand → Bool
  | .message variant fields => fieldsFit (fieldWidths variant) fields
  | _ => false

/-- A token's literals are bytes (R115). -/
def literalsAreBytes : TokenOf Nat → Bool
  | .val n => decide (n ≤ 0xFF)
  | .seq ns => ns.all fun n => decide (n ≤ 0xFF)
  | _ => true

/-- A token program whose literals are bytes; that it is well-formed (R116) is the operation's check. -/
def tokensOperand : Operand → Bool
  | .program tokens => tokens.all literalsAreBytes
  | _ => false

/-- The operands column of R117, by operation code. -/
def operandTypes (code : Nat) : Option (List (Operand → Bool)) :=
  if code ∈ [0x01, 0x02, 0x03, 0x04] then some [widthOperand, naturalOperand]
  else if code = 0x05 then some [bitsOperand 8, bitsOperand 8]
  else if code = 0x06 then some [bitsOperand 14]
  else if code ∈ [0x07, 0x09, 0x0A] then some [naturalOperand]
  else if code ∈ [0x08, 0x13] then some [bitsOperand 4]
  else if code = 0x10 then some [bitsOperand 4, bitsOperand 4, bytesOperand]
  else if code = 0x11 then some [bitsOperand 8, bitsOperand 8, bitsOperand 8, bitsOperand 8]
  else if code ∈ [0x12, 0x14, 0x31, 0x51] then some [packetFieldsOperand]
  else if code ∈ [0x20, 0x21, 0x22, 0x23, 0x24, 0x26, 0x40] then some [bitsOperand 8]
  else if code = 0x25 then some [statusOperand]
  else if code ∈ [0x30, 0x71] then some [bytesOperand]
  else if code ∈ [0x32, 0x41, 0x61, 0x62, 0x73, 0x74] then some []
  else if code = 0x50 then some [bitsOperand 4, messageFieldsOperand]
  else if code = 0x60 then some [messageFieldsOperand]
  else if code = 0x70 then some [tokensOperand]
  else if code = 0x72 then some [tokensOperand, bitsOperand 4]
  else if code = 0x75 then some [bytesOperand, tokensOperand]
  else none

/-- The operands are in their types, one for one. -/
def fits : List (Operand → Bool) → List Operand → Bool
  | [], [] => true
  | inType :: types, operand :: operands => inType operand && fits types operands
  | _, _ => false

/-- The instructions whose row belongs to the parser (R240, R250). -/
def isParserInstr : Instr → Bool
  | .parseByte _ => true
  | .parserReset => true
  | .byteNoteOff _ => true
  | .byteNoteOn _ => true
  | .byteNotePressure _ => true
  | .byteControlChange _ => true
  | .byteProgramChange _ => true
  | .byteChannelPressure _ => true
  | .bytePitchBend _ => true
  | .byteSysexStart => true
  | .byteTimeCodeQuarterFrame => true
  | .byteSongPositionPointer => true
  | .byteSongSelect => true
  | .byteUndefinedF4 => true
  | .byteUndefinedF5 => true
  | .byteTuneRequest => true
  | .byteSysexEndInSysex => true
  | .byteSysexEndSpurious => true
  | .byteDataIdle _ => true
  | .byteDataAwaitingData _ => true
  | .byteDataInSysex _ => true
  | _ => false

/-- Which instruction raises an error, with what it carries (R400). A byte or packet pattern is named by the input it
stands for. -/
def raisedBy : ErrorKind → Instr → Prop
  | .invalidStatus b, i => i = .classify b ∨ (b.toNat < 0x80 ∧ (i = .parseByte b ∨ encode i = .serial b))
  | .badPacket p, i =>
    i = .decodePacket p ∨ i = .packetPayload p ∨ i = .rcSerialize p ∨
      encode i = .usb (BitVec.ofNat 8 (p.cable.toNat <<< 4 ||| p.cin.toNat)) p.b0 p.b1 p.b2
  | .invalidChannel e, i => i = .channelFromExternal e
  | .invalidValue n operands, i =>
    (∃ wide, operands = [wide] ∧ i = .fromDirect n wide) ∨
      (∃ msb lsb : Byte, n = .w14 ∧ operands = [msb.toNat, lsb.toNat] ∧ i = .u14FromPair msb lsb)
  | .invalidCode x, i => i = .cinFromInt x
  | .invalidCable x, i => i = .cableFromInt x
  | .sysexOutOfBounds, _ => False
  | .bufferOverflow, i => ∃ m, i = .captureStep m
  | .spuriousSysexContinuation, i => ∃ d0 d1 d2, i = .captureStep (.sysexCont d0 d1 d2)
  | .spuriousSysexEnd (some b), i => b = 0xF7 ∧ (i = .parseByte b ∨ encode i = .serial b)
  | .spuriousSysexEnd none, i =>
    i = .captureStep .sysexEnd ∨ (∃ d0, i = .captureStep (.sysexEnd1 d0)) ∨
      (∃ d0 d1, i = .captureStep (.sysexEnd2 d0 d1))
  | .noMatch, i => ∃ buf program, i = .matchProgram buf program

end Sys2Proof.Stated

open Sys2Proof.Stated

/-! ### Bounded integers (40_bounded.md) -/

/-- R161, R162 and R163: the three ways to make a value of type UN from a wide one. -/
def Obligations.WideValuesAreCulledClampedOrRejected : Prop :=
  ∀ (mode : ParserMode) (n : Width) (wide : Nat) (s : State),
    decode mode (.command 0x01 [.nat n.bits, .nat wide]) = .ok (.cull n wide) ∧
    exec (.cull n wide) s = .next (s.setOutput (some (.ok (.nat (wide &&& (2 ^ n.bits - 1)))))) ∧
    decode mode (.command 0x02 [.nat n.bits, .nat wide]) = .ok (.fill n wide) ∧
    exec (.fill n wide) s =
      .next (s.setOutput (some (.ok (.nat (if wide > 2 ^ n.bits - 1 then 2 ^ n.bits - 1 else wide))))) ∧
    decode mode (.command 0x03 [.nat n.bits, .nat wide]) = .ok (.fromDirect n wide) ∧
    exec (.fromDirect n wide) s =
      .next (s.setOutput (some
        (if wide > 2 ^ n.bits - 1 then .err (.invalidValue n [wide]) else .ok (.nat wide))))

/-- R164. A value that is not of type UN is refused, as R409 has it of an operand outside its type. -/
def Obligations.ToWideIsLossless : Prop :=
  ∀ (mode : ParserMode) (n : Width) (v : Nat) (s : State),
    decode mode (.command 0x04 [.nat n.bits, .nat v]) = .ok (.toWide n v) ∧
    (v ≤ 2 ^ n.bits - 1 → exec (.toWide n v) s = .next (s.setOutput (some (.ok (.nat v))))) ∧
    (v > 2 ^ n.bits - 1 → exec (.toWide n v) s = .refused (.valueNotBounded n v))

/-- R165 and R166. -/
def Obligations.FourteenBitPairsJoinAndSplit : Prop :=
  ∀ (mode : ParserMode) (msb lsb : Byte) (v : U14) (s : State),
    decode mode (.command 0x05 [.nat msb.toNat, .nat lsb.toNat]) = .ok (.u14FromPair msb lsb) ∧
    exec (.u14FromPair msb lsb) s =
      .next (s.setOutput (some
        (if msb.toNat > 0x7F ∨ lsb.toNat > 0x7F then .err (.invalidValue .w14 [msb.toNat, lsb.toNat])
        else .ok (.nat (msb.toNat <<< 7 ||| lsb.toNat))))) ∧
    decode mode (.command 0x06 [.nat v.toNat]) = .ok (.u14ToPair v) ∧
    exec (.u14ToPair v) s =
      .next (s.setOutput (some (.ok (.pair (BitVec.ofNat 7 (v.toNat >>> 7)) (BitVec.ofNat 7 (v.toNat &&& 0x7F))))))

/-- R168, R170 and R171. -/
def Obligations.ChannelsCablesAndCodesAreConverted : Prop :=
  ∀ (mode : ParserMode) (c : U4) (x : Nat) (s : State),
    decode mode (.command 0x08 [.nat c.toNat]) = .ok (.channelToExternal c) ∧
    exec (.channelToExternal c) s = .next (s.setOutput (some (.ok (.nat (c.toNat + 1))))) ∧
    decode mode (.command 0x09 [.nat x]) = .ok (.cableFromInt x) ∧
    exec (.cableFromInt x) s = .next (s.setOutput (some (if x > 15 then .err (.invalidCable x) else .ok (.nat x)))) ∧
    decode mode (.command 0x0A [.nat x]) = .ok (.cinFromInt x) ∧
    exec (.cinFromInt x) s = .next (s.setOutput (some (if x > 15 then .err (.invalidCode x) else .ok (.nat x))))

/-- Derived. The spec marks both as its own inference: in R167 "that the mapping is `e − 1` is [derived: ...]", in R211
"The range is [derived: ...]". -/
def Obligations.InferredRangesHold : Prop :=
  ∀ (mode : ParserMode) (e : Nat) (b : Byte) (s : State),
    decode mode (.command 0x07 [.nat e]) = .ok (.channelFromExternal e) ∧
    exec (.channelFromExternal e) s =
      .next (s.setOutput (some (if e < 1 ∨ e > 16 then .err (.invalidChannel e) else .ok (.nat (e - 1))))) ∧
    decode mode (.command 0x22 [.nat b.toNat]) = .ok (.isChannelVoice b) ∧
    exec (.isChannelVoice b) s =
      .next (s.setOutput (some (.ok (.bool (decide (0x80 ≤ b.toNat ∧ b.toNat ≤ 0xEF))))))

/-- Derived: the corner cases of R164, R166, R168 and R192 that the spec marks [derived: ...]: each conversion is undone by
its counterpart. -/
def Obligations.ConversionsUndoEachOther : Prop :=
  ∀ (n : Width) (v : Nat) (pair : U14) (c : U4) (p : Packet) (w0 w1 w2 w3 : Byte) (s : State),
    (v ≤ 2 ^ n.bits - 1 →
      exec (.cull n v) s = .next (s.setOutput (some (.ok (.nat v)))) ∧
      exec (.fill n v) s = .next (s.setOutput (some (.ok (.nat v)))) ∧
      exec (.fromDirect n v) s = .next (s.setOutput (some (.ok (.nat v))))) ∧
    exec (.u14FromPair (BitVec.ofNat 8 (pair.toNat >>> 7)) (BitVec.ofNat 8 (pair.toNat &&& 0x7F))) s =
      .next (s.setOutput (some (.ok (.nat pair.toNat)))) ∧
    exec (.channelFromExternal (c.toNat + 1)) s = .next (s.setOutput (some (.ok (.nat c.toNat)))) ∧
    exec (.packetFromWire (BitVec.ofNat 8 (p.cable.toNat <<< 4 ||| p.cin.toNat)) p.b0 p.b1 p.b2) s =
      .next (s.setOutput (some (.ok (.packet p)))) ∧
    exec (.packetToWire
        { cable := BitVec.ofNat 4 (w0.toNat >>> 4), cin := BitVec.ofNat 4 (w0.toNat % 16),
          b0 := w1, b1 := w2, b2 := w3 }) s =
      .next (s.setOutput (some (.ok (.bytes [w0, w1, w2, w3]))))

/-! ### Packets (41_packet.md) -/

/-- R190. -/
def Obligations.PacketMakePadsWithZeros : Prop :=
  ∀ (mode : ParserMode) (cable cin : U4) (bytes : List Byte) (s : State),
    decode mode (.command 0x10 [.nat cable.toNat, .nat cin.toNat, .bytes (bytes.map BitVec.toNat)]) =
      .ok (.packetMake cable cin bytes) ∧
    (bytes.length ≤ 3 →
      exec (.packetMake cable cin bytes) s =
        .next (s.setOutput (some (.ok (.packet
          { cable, cin,
            b0 := (bytes ++ List.replicate (3 - bytes.length) 0).getD 0 0,
            b1 := (bytes ++ List.replicate (3 - bytes.length) 0).getD 1 0,
            b2 := (bytes ++ List.replicate (3 - bytes.length) 0).getD 2 0 }))))) ∧
    (bytes.length > 3 → exec (.packetMake cable cin bytes) s = .refused .packetTooLong)

/-- R191 and R192. -/
def Obligations.WireFormIsFourBytes : Prop :=
  ∀ (mode : ParserMode) (w0 w1 w2 w3 : Byte) (p : Packet) (s : State),
    decode mode (.command 0x11 [.nat w0.toNat, .nat w1.toNat, .nat w2.toNat, .nat w3.toNat]) =
      .ok (.packetFromWire w0 w1 w2 w3) ∧
    exec (.packetFromWire w0 w1 w2 w3) s =
      .next (s.setOutput (some (.ok (.packet
        { cable := BitVec.ofNat 4 (w0.toNat >>> 4), cin := BitVec.ofNat 4 (w0.toNat % 16),
          b0 := w1, b1 := w2, b2 := w3 })))) ∧
    decode mode (.command 0x12 [.packet p.cable.toNat p.cin.toNat p.b0.toNat p.b1.toNat p.b2.toNat]) =
      .ok (.packetToWire p) ∧
    exec (.packetToWire p) s =
      .next (s.setOutput (some (.ok (.bytes
        [BitVec.ofNat 8 (p.cable.toNat <<< 4 ||| p.cin.toNat), p.b0, p.b1, p.b2]))))

/-- R193 and R194. -/
def Obligations.PayloadLengthIsTheCodesColumn : Prop :=
  ∀ (mode : ParserMode) (cin : U4) (p : Packet) (s : State),
    decode mode (.command 0x13 [.nat cin.toNat]) = .ok (.payloadLen cin) ∧
    exec (.payloadLen cin) s = .next (s.setOutput (some (.ok (.optNat (payloadLens.getD cin.toNat none))))) ∧
    decode mode (.command 0x14 [.packet p.cable.toNat p.cin.toNat p.b0.toNat p.b1.toNat p.b2.toNat]) =
      .ok (.packetPayload p) ∧
    exec (.packetPayload p) s =
      .next (s.setOutput (some
        (match payloadLens.getD p.cin.toNat none with
        | none => .err (.badPacket p)
        | some n => .ok (.bytes ([p.b0, p.b1, p.b2].take n)))))

/-! ### Status taxonomy (42_status_compressor.md) -/

/-- R210, R212 and R215. -/
def Obligations.ByteTestsFollowTheRanges : Prop :=
  ∀ (mode : ParserMode) (b : Byte) (s : State),
    decode mode (.command 0x20 [.nat b.toNat]) = .ok (.isData b) ∧
    exec (.isData b) s = .next (s.setOutput (some (.ok (.bool (decide (b.toNat < 0x80)))))) ∧
    decode mode (.command 0x21 [.nat b.toNat]) = .ok (.isStatus b) ∧
    exec (.isStatus b) s = .next (s.setOutput (some (.ok (.bool (decide (b.toNat ≥ 0x80)))))) ∧
    decode mode (.command 0x23 [.nat b.toNat]) = .ok (.isRealtime b) ∧
    exec (.isRealtime b) s = .next (s.setOutput (some (.ok (.bool (decide (b.toNat ≥ 0xF8)))))) ∧
    decode mode (.command 0x26 [.nat b.toNat]) = .ok (.channelOf b) ∧
    exec (.channelOf b) s =
      .next (s.setOutput (some (.ok (.optNat
        (if 0x80 ≤ b.toNat ∧ b.toNat ≤ 0xEF then some (b.toNat &&& 0x0F) else none)))))

/-- R213 and R214: every byte's kind and every kind's length, by the status table. -/
def Obligations.StatusTableGivesKindsAndLengths : Prop :=
  ∀ (mode : ParserMode) (b : Byte) (k : StatusKind) (s : State),
    decode mode (.command 0x24 [.nat b.toNat]) = .ok (.classify b) ∧
    (b.toNat < 0x80 ∨ b = 0xF7 → exec (.classify b) s = .next (s.setOutput (some (.err (.invalidStatus b))))) ∧
    (0x80 ≤ b.toNat → b.toNat ≤ 0xEF → voiceKinds[(b.toNat >>> 4) - 8]? = some k →
      exec (.classify b) s = .next (s.setOutput (some (.ok (.status k))))) ∧
    (0xF0 ≤ b.toNat → systemKinds[b.toNat - 0xF0]? = some (some k) →
      exec (.classify b) s = .next (s.setOutput (some (.ok (.status k))))) ∧
    decode mode (.command 0x25 [.status k]) = .ok (.expectedLen k) ∧
    exec (.expectedLen k) s =
      .next (s.setOutput (some (.ok (.nat (if k ∈ lengthThree then 3 else if k ∈ lengthTwo then 2 else 1)))))

/-! ### Running-status compressor (42_status_compressor.md) -/

/-- R216. -/
def Obligations.PackElidesARepeatedVoiceStatus : Prop :=
  ∀ (mode : ParserMode) (first : Byte) (rest : List Byte) (s : State),
    decode mode (.command 0x30 [.bytes ((first :: rest).map BitVec.toNat)]) = .ok (.rcPack (first :: rest)) ∧
    (rest.length ≤ 2 →
      exec (.rcPack (first :: rest)) s =
        .next
          (if 0x80 ≤ first.toNat ∧ first.toNat ≤ 0xEF then
            if s.rcLast = some first then s.setOutput (some (.ok (.bytes rest)))
            else (s.setRcLast (some first)).setOutput (some (.ok (.bytes (first :: rest))))
          else (s.setRcLast none).setOutput (some (.ok (.bytes (first :: rest)))))) ∧
    exec (.rcPack []) s = .refused .payloadEmpty

/-- R217: RC_SERIALIZE answers what RC_PACK answers for the meaningful bytes, and fails on the reserved codes with
`RC.last_status` unchanged. -/
def Obligations.SerializePacksTheMeaningfulBytes : Prop :=
  ∀ (mode : ParserMode) (p : Packet) (s : State),
    decode mode (.command 0x31 [.packet p.cable.toNat p.cin.toNat p.b0.toNat p.b1.toNat p.b2.toNat]) =
      .ok (.rcSerialize p) ∧
    (payloadLens.getD p.cin.toNat none = none →
      exec (.rcSerialize p) s = .next (s.setOutput (some (.err (.badPacket p))))) ∧
    (∀ n, payloadLens.getD p.cin.toNat none = some n →
      ∃ t, exec (.rcPack ([p.b0, p.b1, p.b2].take n)) s = .next t ∧ exec (.rcSerialize p) s = .next t)

/-- R218, R250, R351 and R375: RC_RESET, PARSER_RESET, CAPTURE_CLEAR and GEN_RESTART, in any state. -/
def Obligations.UnitResetsRestoreTheUnit : Prop :=
  ∀ (mode : ParserMode) (s : State),
    decode mode (.command 0x32 []) = .ok .rcReset ∧
    exec .rcReset s = .next ((s.setRcLast none).setOutput (some (.ok .unit))) ∧
    decode mode (.command 0x41 []) = .ok .parserReset ∧
    exec .parserReset s = .next ((s.setPu .idle).setOutput (some (.ok .unit))) ∧
    decode mode (.command 0x62 []) = .ok .captureClear ∧
    exec .captureClear s = .next ((s.setScBuf []).setOutput (some (.ok .unit))) ∧
    decode mode (.command 0x74 []) = .ok .genRestart ∧
    exec .genRestart s = .next ((s.setTgK 0).setOutput (some (.ok .unit)))

/-! ### Parser (43_parser.md): PARSE_BYTE and the byte-class rows -/

/-- R241, for PARSE_BYTE and the eight real-time rows. -/
def Obligations.RealtimeBytesPassThrough : Prop :=
  ∀ s : State,
    (∀ b : Byte, 0xF8 ≤ b.toNat → exec (.parseByte b) s = .next (s.setOutput (emitted s 0xF b 0 0))) ∧
    exec .byteTimingClock s = .next (s.setOutput (emitted s 0xF 0xF8 0 0)) ∧
    exec .byteMeasureEnd s = .next (s.setOutput (emitted s 0xF 0xF9 0 0)) ∧
    exec .byteStart s = .next (s.setOutput (emitted s 0xF 0xFA 0 0)) ∧
    exec .byteContinue s = .next (s.setOutput (emitted s 0xF 0xFB 0 0)) ∧
    exec .byteStop s = .next (s.setOutput (emitted s 0xF 0xFC 0 0)) ∧
    exec .byteUndefinedFD s = .next (s.setOutput (emitted s 0xF 0xFD 0 0)) ∧
    exec .byteActiveSensing s = .next (s.setOutput (emitted s 0xF 0xFE 0 0)) ∧
    exec .byteSystemReset s = .next (s.setOutput (emitted s 0xF 0xFF 0 0))

/-- R243, for PARSE_BYTE and its row. -/
def Obligations.SysexEndFlushesTheRun : Prop :=
  ∀ (s : State) (a b : Byte) (i : Instr), i = .parseByte 0xF7 ∨ i = .byteSysexEndInSysex →
    (s.pu = .inSysex [] → exec i s = .next ((s.setPu .idle).setOutput (emitted s 0x5 0xF7 0 0))) ∧
    (s.pu = .inSysex [a] → exec i s = .next ((s.setPu .idle).setOutput (emitted s 0x6 a 0xF7 0))) ∧
    (s.pu = .inSysex [a, b] → exec i s = .next ((s.setPu .idle).setOutput (emitted s 0x7 a b 0xF7)))

/-- R244 and R246, for PARSE_BYTE and the row of each: 0xF7 outside a run and a data byte in `Idle` are errors that leave
`Idle`. -/
def Obligations.BytesOutOfPlaceFail : Prop :=
  ∀ s : State,
    (∀ i : Instr, i = .parseByte 0xF7 ∨ i = .byteSysexEndSpurious →
      s.pu = .idle ∨ (∃ status collected, s.pu = .awaitingData status collected) →
      exec i s = .next ((s.setPu .idle).setOutput (some (.err (.spuriousSysexEnd (some 0xF7)))))) ∧
    (∀ (v : U7) (i : Instr), i = .parseByte (field v) ∨ i = .byteDataIdle v → s.pu = .idle →
      exec i s = .next ((s.setPu .idle).setOutput (some (.err (.invalidStatus (field v))))))

/-- R242 and R245, for PARSE_BYTE, the row of 0xF0 and the thirteen status rows. -/
def Obligations.StatusBytesStartAMessage : Prop :=
  ∀ s : State,
    exec (.parseByte 0xF0) s = .next ((s.setPu (.inSysex [0xF0])).setOutput silent) ∧
    exec .byteSysexStart s = .next ((s.setPu (.inSysex [0xF0])).setOutput silent) ∧
    (∀ b : Byte, takesData b → exec (.parseByte b) s = awaits b s) ∧
    (∀ b : Byte, b = 0xF4 ∨ b = 0xF5 ∨ b = 0xF6 →
      exec (.parseByte b) s = .next ((s.setPu .idle).setOutput (emitted s 0x5 b 0 0))) ∧
    (∀ ch : U4,
      exec (.byteNoteOff ch) s = awaits (voiceByte 0x8 ch) s ∧
      exec (.byteNoteOn ch) s = awaits (voiceByte 0x9 ch) s ∧
      exec (.byteNotePressure ch) s = awaits (voiceByte 0xA ch) s ∧
      exec (.byteControlChange ch) s = awaits (voiceByte 0xB ch) s ∧
      exec (.byteProgramChange ch) s = awaits (voiceByte 0xC ch) s ∧
      exec (.byteChannelPressure ch) s = awaits (voiceByte 0xD ch) s ∧
      exec (.bytePitchBend ch) s = awaits (voiceByte 0xE ch) s) ∧
    exec .byteTimeCodeQuarterFrame s = awaits 0xF1 s ∧
    exec .byteSongPositionPointer s = awaits 0xF2 s ∧
    exec .byteSongSelect s = awaits 0xF3 s ∧
    exec .byteUndefinedF4 s = .next ((s.setPu .idle).setOutput (emitted s 0x5 0xF4 0 0)) ∧
    exec .byteUndefinedF5 s = .next ((s.setPu .idle).setOutput (emitted s 0x5 0xF5 0 0)) ∧
    exec .byteTuneRequest s = .next ((s.setPu .idle).setOutput (emitted s 0x5 0xF6 0 0))

/-- R247, for PARSE_BYTE and its row: the message completes when `EXPECTED_LEN − 1` data bytes are collected. The status
is one that awaits data, as R32 has it. -/
def Obligations.DataBytesCompleteTheMessage : Prop :=
  ∀ (s : State) (status : Byte) (collected : List Byte) (v : U7) (i : Instr),
    i = .parseByte (field v) ∨ i = .byteDataAwaitingData v → s.pu = .awaitingData status collected → takesData status →
    (collected.length + 1 = lengthOf status - 1 →
      exec i s =
        .next ((s.setPu
          (if (0x80 ≤ status.toNat ∧ status.toNat ≤ 0xEF) ∨ s.params.sysCommonRunningStatus then
            .awaitingData status []
          else .idle)).setOutput
          (emitted s (cinOf status) status ((collected ++ [field v]).getD 0 0) ((collected ++ [field v]).getD 1 0)))) ∧
    (collected.length + 1 ≠ lengthOf status - 1 →
      exec i s = .next ((s.setPu (.awaitingData status (collected ++ [field v]))).setOutput silent))

/-- R248, for PARSE_BYTE and its row. -/
def Obligations.EveryThirdSysexByteFlushes : Prop :=
  ∀ (s : State) (collected : List Byte) (a b : Byte) (v : U7) (i : Instr),
    i = .parseByte (field v) ∨ i = .byteDataInSysex v →
    (s.pu = .inSysex collected → collected.length + 1 ≠ 3 →
      exec i s = .next ((s.setPu (.inSysex (collected ++ [field v]))).setOutput silent)) ∧
    (s.pu = .inSysex [a, b] →
      exec i s = .next ((s.setPu (.inSysex [])).setOutput (emitted s 0x4 a b (field v))))

/-- Derived (43_parser.md, laws of the parser; 30_encoding.md, operation codes): code 0x40 is PARSE_BYTE, and in every
parser state R32 allows, every byte has one of three results, and an error leaves `Idle`. -/
def Obligations.EveryByteHasOneResult : Prop :=
  ∀ (mode : ParserMode) (s : State) (b : Byte),
    decode mode (.command 0x40 [.nat b.toNat]) = .ok (.parseByte b) ∧
    (s.pu.inv = true →
      ∃ t, exec (.parseByte b) s = .next t ∧
        (t.output = silent ∨ (∃ p, t.output = some (.ok (.optPacket (some p)))) ∨
          (∃ e, t.output = some (.err e) ∧ t.pu = .idle)))

/-- Derived (43_parser.md, real-time transparency): a real-time byte anywhere in a stream adds its own packet there and
changes no other result and no state element. -/
def Obligations.RealtimeIsTransparent : Prop :=
  ∀ (x y : List Byte) (r : Byte) (s t u : State) (xs ys : List OpResult), 0xF8 ≤ r.toNat →
    runInstrs (parseAll x) s = .next (xs, t) → runInstrs (parseAll y) t = .next (ys, u) →
    ∃ o, runInstrs (parseAll (x ++ [r] ++ y)) s =
      .next (xs ++ (emitted s 0xF r 0 0).toList ++ ys, u.setOutput o)

/-- Derived (43_parser.md, sysex framing): a whole run fed to the parser gives the packets of TOKEN_FRAME's messages. -/
def Obligations.ParserFramesSysexRuns : Prop :=
  ∀ (d : List Byte) (s : State), (∀ b ∈ d, b.toNat < 0x80) →
    ∃ results t, runInstrs (parseAll ([0xF0] ++ d ++ [0xF7])) s = .next (results, t) ∧
      results.all isOk = true ∧
      packetsOf results = (framed d).map (packetOfMessage s.params.parserCable) ∧ t.pu = .idle

/-! ### Codec (44_codec.md) -/

/-- Derived (44_codec.md, the rule of ENCODE without its rows): ENCODE gives every message the one packet the statements below write `packetOfMessage`,
and the cable goes only into its header; the rows are the four statements that follow. -/
def Obligations.EncodeIsTotalAndKeepsTheCable : Prop :=
  ∀ (mode : ParserMode) (cable : U4) (m : Message) (s : State),
    decode mode (.command 0x50 [.nat cable.toNat, messageOperand m]) = .ok (.encodeMessage cable m) ∧
    exec (.encodeMessage cable m) s = .next (s.setOutput (some (.ok (.packet (packetOfMessage cable m))))) ∧
    ∃ cin b0 b1 b2, encodesTo m cin b0 b1 b2 ∧ packetOfMessage cable m = { cable, cin, b0, b1, b2 }

/-- R284 to R290: both directions of the channel-voice variants, PitchBend's fields by the 14-bit pair under either
policy, and the failure where the kind nibble is not the framing code. -/
def Obligations.ChannelVoiceCodec : Prop :=
  voiceTwo 0x8 .noteOff .pktNoteOff ∧ voiceTwo 0x9 .noteOn .pktNoteOn ∧
  voiceTwo 0xA .notePressure .pktNotePressure ∧ voiceTwo 0xB .controlChange .pktControlChange ∧
  voiceOne 0xC .programChange .pktProgramChange ∧ voiceOne 0xD .channelPressure .pktChannelPressure ∧
  (∀ (ch : U4) (value : U14),
    encodesTo (.pitchBend ch value) 0xE (voiceByte 0xE ch) (BitVec.ofNat 8 (value.toNat &&& 0x7F))
      (BitVec.ofNat 8 (value.toNat >>> 7))) ∧
  (∀ (cable ch : U4) (b1 b2 : Byte),
    decodesTo (.pktPitchBend cable ch b1 b2) { cable, cin := 0xE, b0 := voiceByte 0xE ch, b1, b2 } fun _ =>
      if b1.toNat ≥ 0x80 ∨ b2.toNat ≥ 0x80 then none
      else some (.pitchBend ch (BitVec.ofNat 14 (b2.toNat <<< 7 ||| b1.toNat)))) ∧
  (∀ p : Packet, 0x8 ≤ p.cin.toNat → p.cin.toNat ≤ 0xE → p.b0.toNat >>> 4 ≠ p.cin.toNat → rejected p)

/-- R291 to R294: both directions of the system-common variants, and the failure of their status on any other code. -/
def Obligations.SystemCommonCodec : Prop :=
  commonOne 0x2 0xF1 .timeCodeQuarterFrame .pktTimeCodeQuarterFrame ∧
  ((∀ a b : U7, encodesTo (.songPositionPointer a b) 0x3 0xF2 (field a) (field b)) ∧
    ∀ (cable : U4) (b1 b2 : Byte),
      decodesTo (.pktSongPositionPointer cable b1 b2) { cable, cin := 0x3, b0 := 0xF2, b1, b2 } fun policy =>
        bothRead policy b1 b2 .songPositionPointer) ∧
  commonOne 0x2 0xF3 .songSelect .pktSongSelect ∧
  bare 0x5 0xF6 .tuneRequest .pktTuneRequest ∧
  (∀ p : Packet, (p.b0 = 0xF1 ∧ p.cin ≠ 0x2) ∨ (p.b0 = 0xF2 ∧ p.cin ≠ 0x3) ∨ (p.b0 = 0xF3 ∧ p.cin ≠ 0x2) ∨
    (p.b0 = 0xF6 ∧ p.cin ≠ 0x5) → rejected p) ∧
  (∀ p : Packet, p.cin = 0x3 → p.b0 = 0xFF → rejected p)

/-- R295 to R301: both directions of the seven real-time variants, and the failure of a real-time byte on any code but
0xF. -/
def Obligations.RealtimeCodec : Prop :=
  bare 0xF 0xF8 .timingClock .pktTimingClock ∧ bare 0xF 0xF9 .measureEnd .pktMeasureEnd ∧
  bare 0xF 0xFA .start .pktStart ∧ bare 0xF 0xFB .continue_ .pktContinue ∧ bare 0xF 0xFC .stop .pktStop ∧
  bare 0xF 0xFE .activeSensing .pktActiveSensing ∧ bare 0xF 0xFF .systemReset .pktSystemReset ∧
  (∀ p : Packet, 0xF8 ≤ p.b0.toNat → p.cin ≠ 0xF → rejected p)

/-- R302 to R308: both directions of the sysex variants, and the failures where the 0xF7 is missing or b0 selects no
variant, under either policy. -/
def Obligations.SysexFragmentCodec : Prop :=
  ((∀ a b : U7, encodesTo (.sysexBegin a b) 0x4 0xF0 (field a) (field b)) ∧
    ∀ (cable : U4) (b1 b2 : Byte),
      decodesTo (.pktSysexBegin cable b1 b2) { cable, cin := 0x4, b0 := 0xF0, b1, b2 } fun policy =>
        bothRead policy b1 b2 .sysexBegin) ∧
  ((∀ a b c : U7, encodesTo (.sysexCont a b c) 0x4 (field a) (field b) (field c)) ∧
    ∀ (cable : U4) (d0 : U7) (b1 b2 : Byte),
      decodesTo (.pktSysexCont cable d0 b1 b2) { cable, cin := 0x4, b0 := field d0, b1, b2 } fun policy =>
        bothRead policy b1 b2 (.sysexCont d0)) ∧
  bare 0x5 0xF7 .sysexEnd .pktSysexEnd ∧
  ((∀ a : U7, encodesTo (.sysexEnd1 a) 0x6 (field a) 0xF7 0) ∧
    ∀ (cable : U4) (d0 : U7) (b2 : Byte),
      decodesTo (.pktSysexEnd1 cable d0 b2) { cable, cin := 0x6, b0 := field d0, b1 := 0xF7, b2 } fun _ =>
        some (.sysexEnd1 d0)) ∧
  ((∀ a b : U7, encodesTo (.sysexEnd2 a b) 0x7 (field a) (field b) 0xF7) ∧
    ∀ (cable : U4) (d0 : U7) (b1 : Byte),
      decodesTo (.pktSysexEnd2 cable d0 b1) { cable, cin := 0x7, b0 := field d0, b1, b2 := 0xF7 } fun policy =>
        (dataRead policy b1).map (.sysexEnd2 d0)) ∧
  (encodesTo .sysexEmpty 0x6 0xF0 0xF7 0 ∧
    ∀ (cable : U4) (b2 : Byte),
      decodesTo (.pktSysexEmpty cable b2) { cable, cin := 0x6, b0 := 0xF0, b1 := 0xF7, b2 } fun _ =>
        some .sysexEmpty) ∧
  ((∀ a : U7, encodesTo (.sysexSingleByte a) 0x7 0xF0 (field a) 0xF7) ∧
    ∀ (cable : U4) (b1 : Byte),
      decodesTo (.pktSysexSingleByte cable b1) { cable, cin := 0x7, b0 := 0xF0, b1, b2 := 0xF7 } fun policy =>
        (dataRead policy b1).map .sysexSingleByte) ∧
  (∀ p : Packet, p.cin = 0x4 ∨ p.cin = 0x6 ∨ p.cin = 0x7 → 0x80 ≤ p.b0.toNat → p.b0 ≠ 0xF0 → rejected p) ∧
  (∀ p : Packet, (p.cin = 0x6 ∧ p.b1 ≠ 0xF7) ∨ (p.cin = 0x7 ∧ p.b2 ≠ 0xF7) → rejected p)

/-- R309: a packet that matches none of the 25 patterns of R112 is BadPacket. -/
def Obligations.UnmatchedPacketsAreBad : Prop :=
  ∀ (mode : ParserMode) (p : Packet),
    decode mode (.command 0x51 [.packet p.cable.toNat p.cin.toNat p.b0.toNat p.b1.toNat p.b2.toNat]) =
      .ok (.decodePacket p) ∧
    ((∀ row ∈ packetRows, packetWord p &&& row.1 ≠ row.2) → rejected p)

/-- Derived (44_codec.md, laws of the codec): DECODE gives back every encoded message, and ENCODE every decoded packet
whose unused positions are zero and, under `Cull`, whose data positions are below 0x80. -/
def Obligations.CodecRoundTrip : Prop :=
  (∀ (cable : U4) (m : Message) (s : State), ∃ p,
    exec (.encodeMessage cable m) s = .next (s.setOutput (some (.ok (.packet p)))) ∧ p.cable = cable ∧
    exec (.decodePacket p) s = .next (s.setOutput (some (.ok (.message m))))) ∧
  (∀ (p : Packet) (m : Message) (s : State),
    exec (.decodePacket p) s = .next (s.setOutput (some (.ok (.message m)))) →
    (∀ b ∈ unusedPositions m p, b = 0) →
    (s.params.decodeDataPolicy = .cull → ∀ b ∈ dataPositions m p, b.toNat < 0x80) →
    exec (.encodeMessage p.cable m) s = .next (s.setOutput (some (.ok (.packet p)))))

/-- Derived (41_packet.md, packet consistency): what the parser and the generator yield is consistent, but for the
single-byte packets of the undefined statuses. The parser state is one R32 allows. -/
def Obligations.YieldedPacketsAreConsistent : Prop :=
  ∀ (s t : State) (i : Instr) (p : Packet), s.pu.inv = true → i = .genNext ∨ (∃ b, i = .parseByte b) →
    exec i s = .next t → t.output = some (.ok (.optPacket (some p))) →
    Consistent p ∨
      (p.b1 = 0 ∧ p.b2 = 0 ∧ ((p.cin = 0x5 ∧ (p.b0 = 0xF4 ∨ p.b0 = 0xF5)) ∨ (p.cin = 0xF ∧ p.b0 = 0xFD)))

/-! ### Capture (45_sysex_capture.md) -/

/-- R342, R347 and R348: the fragments that clear the buffer first. -/
def Obligations.RunsOpenOnAClearedBuffer : Prop :=
  ∀ (s : State) (d0 d1 : U7),
    exec (.captureStep (.sysexBegin d0 d1)) s =
      .next (if s.params.captureCapacity < 2 then (s.setScBuf []).setOutput (some (.err .bufferOverflow))
        else (s.setScBuf [field d0, field d1]).setOutput (some (.ok (.capture .pending)))) ∧
    exec (.captureStep (.sysexSingleByte d0)) s =
      .next (if s.params.captureCapacity < 1 then (s.setScBuf []).setOutput (some (.err .bufferOverflow))
        else (s.setScBuf [field d0]).setOutput (some (.ok (.capture (.captured 1))))) ∧
    exec (.captureStep .sysexEmpty) s = .next ((s.setScBuf []).setOutput (some (.ok (.capture (.captured 0)))))

/-- R343: emptiness first, then the capacity, then the append. -/
def Obligations.ContinuationAppendsToAnOpenRun : Prop :=
  ∀ (s : State) (d0 d1 d2 : U7),
    exec (.captureStep (.sysexCont d0 d1 d2)) s =
      .next (if s.scBuf = [] then s.setOutput (some (.err .spuriousSysexContinuation))
        else if s.scBuf.length + 3 > s.params.captureCapacity then
          (s.setScBuf []).setOutput (some (.err .bufferOverflow))
        else (s.setScBuf (s.scBuf ++ [field d0, field d1, field d2])).setOutput (some (.ok (.capture .pending))))

/-- R344, R345 and R346: the three ends. -/
def Obligations.EndFragmentsCompleteTheRun : Prop :=
  ∀ (s : State) (d0 d1 : U7),
    exec (.captureStep .sysexEnd) s =
      .next (s.setOutput (some (if s.scBuf = [] then .err (.spuriousSysexEnd none)
        else .ok (.capture (.captured s.scBuf.length))))) ∧
    exec (.captureStep (.sysexEnd1 d0)) s =
      .next (if s.scBuf = [] then s.setOutput (some (.err (.spuriousSysexEnd none)))
        else if s.scBuf.length + 1 > s.params.captureCapacity then
          (s.setScBuf []).setOutput (some (.err .bufferOverflow))
        else (s.setScBuf (s.scBuf ++ [field d0])).setOutput
          (some (.ok (.capture (.captured (s.scBuf.length + 1)))))) ∧
    exec (.captureStep (.sysexEnd2 d0 d1)) s =
      .next (if s.scBuf = [] then s.setOutput (some (.err (.spuriousSysexEnd none)))
        else if s.scBuf.length + 2 > s.params.captureCapacity then
          (s.setScBuf []).setOutput (some (.err .bufferOverflow))
        else (s.setScBuf (s.scBuf ++ [field d0, field d1])).setOutput
          (some (.ok (.capture (.captured (s.scBuf.length + 2))))))

/-- R349: a message that is no sysex fragment empties the buffer without an error. -/
def Obligations.OtherMessagesResetTheCapture : Prop :=
  ∀ (mode : ParserMode) (m : Message) (s : State),
    decode mode (.command 0x60 [messageOperand m]) = .ok (.captureStep m) ∧
    (isSysexFragment m = false →
      exec (.captureStep m) s = .next ((s.setScBuf []).setOutput (some (.ok (.capture .notSysex)))))

/-- R350: the read returns every valid byte and changes nothing else. -/
def Obligations.CaptureReadReturnsTheBuffer : Prop :=
  ∀ (mode : ParserMode) (s : State),
    decode mode (.command 0x61 []) = .ok .captureRead ∧
    exec .captureRead s = .next (s.setOutput (some (.ok (.bytes s.scBuf))))

/-- Derived (45_sysex_capture.md, capture law): a framed body that fits is captured whole, with `Pending` on every step
but the last; one that does not fit overflows and leaves the buffer empty. -/
def Obligations.CaptureRestoresTheBody : Prop :=
  ∀ (d : List Byte) (s : State), (∀ b ∈ d, b.toNat < 0x80) →
    (d.length ≤ s.params.captureCapacity →
      ∃ t, runInstrs (captureAll (framed d)) s =
          .next (List.replicate ((framed d).length - 1) (.ok (.capture .pending)) ++
            [.ok (.capture (.captured d.length))], t) ∧ t.scBuf = d) ∧
    (d.length > s.params.captureCapacity →
      ∃ results t, runInstrs (captureAll (framed d)) s = .next (results, t) ∧
        .err .bufferOverflow ∈ results ∧ t.scBuf = [])

/-! ### Tokens (46_sysex_tokens.md) -/

/-- R371. -/
def Obligations.FlattenGeneratesEachTokensBytes : Prop :=
  ∀ (mode : ParserMode) (program : List Token) (s : State),
    decode mode (.command 0x70 [programOperand program]) = .ok (.tokenFlatten program) ∧
    (programWellFormed program = true →
      exec (.tokenFlatten program) s = .next (s.setOutput (some (.ok (.bytes (program.flatMap generated)))))) ∧
    (programWellFormed program = false → exec (.tokenFlatten program) s = .refused .illFormedProgram)

/-- R372: the cut by index, and the refusal of a byte that is no body byte. -/
def Obligations.FrameCutsTheBodyInThrees : Prop :=
  ∀ (mode : ParserMode) (d : List Byte) (s : State),
    decode mode (.command 0x71 [.bytes (d.map BitVec.toNat)]) = .ok (.tokenFrame d) ∧
    ((∀ b ∈ d, b.toNat < 0x80) →
      exec (.tokenFrame d) s = .next (s.setOutput (some (.ok (.messages (framed d)))))) ∧
    ((∃ b ∈ d, 0x80 ≤ b.toNat) → exec (.tokenFrame d) s = .refused .frameByte)

/-- R373: GEN_START frames the program once and rewinds. -/
def Obligations.GeneratorStartsOnTheFramedProgram : Prop :=
  ∀ (mode : ParserMode) (program : List Token) (cable : U4) (s : State),
    decode mode (.command 0x72 [programOperand program, .nat cable.toNat]) = .ok (.genStart program cable) ∧
    (programWellFormed program = true →
      exec (.genStart program cable) s =
        .next ((((s.setTgMsgs (framed (program.flatMap generated))).setTgCable cable).setTgK 0).setOutput
          (some (.ok .unit)))) ∧
    (programWellFormed program = false → exec (.genStart program cable) s = .refused .illFormedProgram)

/-- R374: GEN_NEXT encodes the message at `TG.k` on the generator's cable and advances; at the end it yields nothing. -/
def Obligations.GeneratorYieldsTheNextPacket : Prop :=
  ∀ (mode : ParserMode) (s : State),
    decode mode (.command 0x73 []) = .ok .genNext ∧
    (s.tgK = s.tgMsgs.length → exec .genNext s = .next (s.setOutput silent)) ∧
    (∀ (m : Message) (cin : U4) (b0 b1 b2 : Byte), s.tgMsgs[s.tgK]? = some m → encodesTo m cin b0 b1 b2 →
      exec .genNext s =
        .next ((s.setTgK (s.tgK + 1)).setOutput
          (some (.ok (.optPacket (some { cable := s.tgCable, cin, b0, b1, b2 }))))))

/-- R376 to R381: MATCH walks the buffer as the rules write it. -/
def Obligations.MatchWalksTheBuffer : Prop :=
  ∀ (mode : ParserMode) (buf : List Byte) (program : List Token) (s : State),
    decode mode (.command 0x75 [.bytes (buf.map BitVec.toNat), programOperand program]) =
      .ok (.matchProgram buf program) ∧
    (programWellFormed program = true →
      exec (.matchProgram buf program) s =
        .next (s.setOutput (some
          (match walk buf 0 [] program with
          | some caps => .ok (.records caps)
          | none => .err .noMatch)))) ∧
    (programWellFormed program = false → exec (.matchProgram buf program) s = .refused .illFormedProgram)

/-- Derived (46_sysex_tokens.md R376 to R381 together): a well-formed program matches a buffer exactly when the buffer is
its tokens' segments one after the other, and the captures are then fixed by the program alone. -/
def Obligations.MatchIsExactSegmentation : Prop :=
  ∀ (buf : List Byte) (program : List Token) (caps : List CaptureRecord) (s : State),
    programWellFormed program = true →
    (exec (.matchProgram buf program) s = .next (s.setOutput (some (.ok (.records caps)))) ↔
      segmented program buf ∧ caps = expectedCaps 0 program)

/-- Derived (46_sysex_tokens.md, self-match): every well-formed program matches its own flattening, with the records of
its Cap tokens. -/
def Obligations.ProgramsMatchTheirOwnBytes : Prop :=
  ∀ (program : List Token) (s : State), programWellFormed program = true →
    exec (.matchProgram (program.flatMap generated) program) s =
      .next (s.setOutput (some (.ok (.records (expectedCaps 0 program)))))

/-- Derived (46_sysex_tokens.md, generator and capture agree): GEN_START and then one GEN_NEXT per message yields the
packets of the framed body; DECODE reads the messages back; CAPTURE_STEP restores the body; and PARSE_BYTE of the whole
run on the same cable yields the same packets. -/
def Obligations.GeneratorParserAndCaptureAgree : Prop :=
  ∀ (program : List Token) (cable : U4) (s : State), programWellFormed program = true →
    (∃ results t,
      runInstrs (.genStart program cable ::
        List.replicate (framed (program.flatMap generated)).length .genNext) s = .next (results, t) ∧
      packetsOf results = (framed (program.flatMap generated)).map (packetOfMessage cable) ∧
      t.tgK = t.tgMsgs.length ∧
      (∀ r : State, ∃ w, runInstrs ((packetsOf results).map .decodePacket) r =
        .next ((framed (program.flatMap generated)).map fun m => .ok (.message m), w)) ∧
      (s.params.parserCable = cable →
        ∃ parsed u, runInstrs (parseAll ([0xF0] ++ program.flatMap generated ++ [0xF7])) s = .next (parsed, u) ∧
          packetsOf parsed = packetsOf results)) ∧
    ((program.flatMap generated).length ≤ s.params.captureCapacity →
      ∃ captured v, runInstrs (captureAll (framed (program.flatMap generated))) s = .next (captured, v) ∧
        captured.getLast? = some (.ok (.capture (.captured (program.flatMap generated).length))) ∧
        v.scBuf = program.flatMap generated)

/-- Derived (42_status_compressor.md, decompression law): what the compressor sends of encoded messages with complete
sysex runs, the parser turns back into the same packets, in order and without an error, for either value of
`SYSCOMMON_RUNNING_STATUS`. -/
def Obligations.ParserUndoesTheCompressor : Prop :=
  ∀ (ms : List Message) (s : State), completeRuns false ms = true → s.rcLast = none → s.pu = .idle →
    s.params.parserCable = 0 →
    ∃ sent t parsed u, runInstrs (serializeAll ms) s = .next (sent, t) ∧ sent.all isOk = true ∧
      runInstrs (parseAll (bytesOf sent)) s = .next (parsed, u) ∧ parsed.all isOk = true ∧
      packetsOf parsed = ms.map (packetOfMessage 0)

/-! ### The whole machine -/

/-- Derived from R409 and R401 together: in every state the invariants of R32 allow, an instruction that is well-formed completes
with a result, and one that is not is refused. -/
def Obligations.WellFormedInstructionsComplete : Prop :=
  ∀ (i : Instr) (s : State), s.inv = true →
    (i.wellFormed = true → ∃ t, exec i s = .next t ∧ t.output.isSome = true) ∧
    (i.wellFormed = false → ∃ r, exec i s = .refused r)

/-- Derived (10_state.md R32, R34, R36, R38): every step keeps the invariants of every unit. -/
def Obligations.StepKeepsTheInvariants : Prop :=
  ∀ s t : State, s.inv = true → step s = .next t → t.inv = true

/-- Derived: the reset state meets the invariants, for any parameters. -/
def Obligations.ResetMeetsTheInvariants : Prop :=
  State.reset.inv = true ∧ ∀ params, (State.initial params).inv = true

/-- R43: the state after reset and after construction. -/
def Obligations.ResetValuesAreTheSpecs : Prop :=
  ∀ params : Params,
    (State.initial params).pu = .idle ∧ (State.initial params).rcLast = none ∧ (State.initial params).scBuf = [] ∧
    (State.initial params).tgMsgs = [] ∧ (State.initial params).tgK = 0 ∧ (State.initial params).tgCable = 0 ∧
    State.reset = State.initial State.reset.params

/-- Derived (10_state.md, the table of state elements): each state element is written only by the operations the table
names, and the parameters and the pending events by none. -/
def Obligations.OnlyItsUnitWritesAnElement : Prop :=
  ∀ (i : Instr) (s t : State), exec i s = .next t →
    t.params = s.params ∧ t.pending = s.pending ∧
    (isParserInstr i = false → t.pu = s.pu) ∧
    ((∀ payload, i ≠ .rcPack payload) → (∀ p, i ≠ .rcSerialize p) → i ≠ .rcReset → t.rcLast = s.rcLast) ∧
    ((∀ m, i ≠ .captureStep m) → i ≠ .captureClear → t.scBuf = s.scBuf) ∧
    ((∀ program cable, i ≠ .genStart program cable) → t.tgMsgs = s.tgMsgs ∧ t.tgCable = s.tgCable) ∧
    ((∀ program cable, i ≠ .genStart program cable) → i ≠ .genNext → i ≠ .genRestart → t.tgK = s.tgK)

/-- R402: the state each failing operation leaves. -/
def Obligations.ErrorsLeaveTheirErrorState : Prop :=
  ∀ (i : Instr) (s t : State) (e : ErrorKind), exec i s = .next t → t.output = some (.err e) →
    (t.pu = if isParserInstr i then .idle else s.pu) ∧
    (∀ m, i = .captureStep m → t.scBuf = [] ∧ (e ≠ .bufferOverflow → s.scBuf = [])) ∧
    ((∀ m, i ≠ .captureStep m) → t.scBuf = s.scBuf) ∧
    t.rcLast = s.rcLast ∧ t.tgMsgs = s.tgMsgs ∧ t.tgK = s.tgK ∧ t.tgCable = s.tgCable

/-- Derived (60_exceptions.md, errors are not latched; the field is the model's, notes/assumptions/2.md): what an operation
does never depends on the result of an earlier one. -/
def Obligations.NoOperationReadsTheLastResult : Prop :=
  ∀ (i : Instr) (s : State) (earlier : Option OpResult), exec i (s.setOutput earlier) = exec i s

/-- Derived (60_exceptions.md, the table of error kinds): each kind is raised only by the operations its row names, with
what the row says it carries; the kind of code 0x07 by none. The parser state is one R32 allows. -/
def Obligations.ErrorsComeFromTheirOperations : Prop :=
  ∀ (i : Instr) (s t : State) (e : ErrorKind), s.pu.inv = true → exec i s = .next t → t.output = some (.err e) →
    raisedBy e i ∧ errorCode e ∈ [0x01, 0x02, 0x03, 0x04, 0x05, 0x06, 0x08, 0x09, 0x0A, 0x0B]

/-! ### Encoding and stepping -/

/-- Derived (30_encoding.md; the form of operands is the model's, notes/assumptions/5.md, and so is the reading of the byte
and packet rows, 6.md and 7.md): decode and encode agree on every instruction, with every operand at every value, in the
parser forms its row names. -/
def Obligations.DecodeEncodeAgree : Prop :=
  ∀ (mode : ParserMode) (i : Instr), selectedIn mode i = true → decode mode (encode i) = .ok i

/-- Derived: words written out from the spec's encodings decode to their instructions: the operation codes of R117, the
byte classes of R102 and R240, the packet patterns of R112. That a code stands for its operation with operands of zeros
is the model's choice (notes/assumptions/8.md); that the last word, a record no pattern matches, is DECODE's is the
model's reading (notes/assumptions/7.md). -/
def Obligations.SampleWordsDecode : Prop :=
  decodeTableWord 8 0x01 = some (.cull .w4 0) ∧
  decodeTableWord 8 0x75 = some (.matchProgram [] []) ∧
  decodeTableWord 8 0x93 = some (.byteNoteOn 0x3) ∧
  decodeTableWord 8 0xF9 = some .byteMeasureEnd ∧
  decodeTableWord 8 0x7F = some (.byteDataIdle 0x7F) ∧
  decodeTableWord 32 0x19913C64 = some (.pktNoteOn 0x1 0x1 0x3C 0x64) ∧
  decodeTableWord 32 0x04030405 = some (.pktSysexCont 0x0 0x03 0x04 0x05) ∧
  decodeTableWord 32 0x07F02AF7 = some (.pktSysexSingleByte 0x0 0x2A) ∧
  decodeTableWord 32 0x09803C64 = some (.decodePacket { cable := 0, cin := 0x9, b0 := 0x80, b1 := 0x3C, b2 := 0x64 })

/-- Derived, over the model's pending events (notes/assumptions/1.md): a step takes the next input off them, decodes it in
the parser's form and runs the instruction; nothing else is added around exec. -/
def Obligations.StepRunsTheDecodedInstruction : Prop :=
  ∀ (s : State) (x : Input) (rest : List Event) (i : Instr), s.pending = .issue x :: rest →
    decode s.pu.mode x = .ok i → step s = exec i (s.setPending rest)

/-- Derived (43_parser.md), and the model's reading of the byte-class rows (notes/assumptions/6.md): a byte on the serial
input does what PARSE_BYTE of it does, by the row that the byte and the parser's form select; and each row that
`PU.state` tells apart from another does what R240 gives its byte in every form, the forms it does not name included. -/
def Obligations.SerialBytesAreParsed : Prop :=
  ∀ (s : State) (b : Byte) (v : U7),
    (∃ i, decode s.pu.mode (.serial b) = .ok i ∧ selectedIn s.pu.mode i = true ∧
      exec i s = exec (.parseByte b) s) ∧
    exec .byteSysexEndInSysex s = exec (.parseByte 0xF7) s ∧
    exec .byteSysexEndSpurious s = exec (.parseByte 0xF7) s ∧
    exec (.byteDataIdle v) s = exec (.parseByte (field v)) s ∧
    exec (.byteDataAwaitingData v) s = exec (.parseByte (field v)) s ∧
    exec (.byteDataInSysex v) s = exec (.parseByte (field v)) s

/-- Derived (30_encoding.md, 44_codec.md; notes/assumptions/7.md): a record on the USB input does what DECODE of its packet does: the row R112 gives it, or BadPacket. -/
def Obligations.UsbRecordsAreDecoded : Prop :=
  ∀ (mode : ParserMode) (w0 w1 w2 w3 : Byte) (s : State),
    ∃ i, decode mode (.usb w0 w1 w2 w3) = .ok i ∧
      exec i s = exec (.decodePacket
        { cable := BitVec.ofNat 4 (w0.toNat >>> 4), cin := BitVec.ofNat 4 (w0.toNat % 16),
          b0 := w1, b1 := w2, b2 := w3 }) s

/-- Derived (20_memory.md and 60_exceptions.md on refusals, 70_reset_and_hazards.md on waiting), and the model's choices of
notes/assumptions/5.md, 9.md, 10.md, 11.md and 14.md: what a step does when there is no operation to run. It waits with
nothing pending, and refuses an unassigned code, an operand missing, of another kind or outside its declared type, two
unordered operations on one unit and a caller write to the capture storage; two unordered operations on different units
are issued as listed. Operands that are in their types are never refused by decoding. The refusals an operation makes
itself, of an operand its type does not shut out, stand in the statement of that operation. -/
def Obligations.StepWaitsOrRefuses : Prop :=
  ∀ (s : State) (rest : List Event),
    (s.pending = [] → step s = .next s) ∧
    (∀ (code : Byte) (operands : List Operand), s.pending = .issue (.command code operands) :: rest →
      code.toNat ∉ assignedCodes → step s = .refused (.unassignedCode code)) ∧
    (∀ (code : Byte) (operands : List Operand) (types : List (Operand → Bool)),
      s.pending = .issue (.command code operands) :: rest → operandTypes code.toNat = some types →
      fits types operands = false → step s = .refused (.operandType code)) ∧
    (∀ (mode : ParserMode) (code : Byte) (operands : List Operand) (types : List (Operand → Bool)),
      operandTypes code.toNat = some types → fits types operands = true →
      ∃ i, decode mode (.command code operands) = .ok i) ∧
    (∀ x y : Input, s.pending = .unordered x y :: rest → unitOf x = unitOf y →
      step s = .refused .unorderedOperations) ∧
    (∀ x y : Input, s.pending = .unordered x y :: rest → unitOf x ≠ unitOf y →
      step s = .next (s.setPending (.issue x :: .issue y :: rest))) ∧
    (∀ (k : Nat) (v : Byte), s.pending = .callerWrite k v :: rest → step s = .refused .callerWrite)
end

