-- ==== Sys2Proof/Laws/Decode.lean ====
section
/-! SUPPORT. What the operand readers of the decoder do on the operands the encoder writes, and that an out-of-range
number is refused. -/

namespace Sys2Proof

/-- A word read back from its number. -/
@[simp] theorem narrow?_toNat {w : Nat} (v : BitVec w) : narrow? w v.toNat = some v := by
  simp [narrow?, v.isLt]

/-- A number that does not fit is refused (R409). -/
theorem narrow?_eq_none {w n : Nat} (h : 2 ^ w ≤ n) : narrow? w n = none := by
  simp [narrow?, Nat.not_lt.mpr h]

@[simp] theorem width?_bits (n : Width) : width? n.bits = some n := by cases n <;> rfl

@[simp] theorem bytes?_map_toNat (bs : List Byte) : bytes? (bs.map BitVec.toNat) = some bs := by
  induction bs with
  | nil => rfl
  | cons b bs ih => simp [bytes?, ih]

@[simp] theorem bytes?_byteNats (bs : List Byte) : bytes? (byteNats bs) = some bs := bytes?_map_toNat bs

@[simp] theorem packet?_fields (p : Packet) :
    packet? p.cable.toNat p.cin.toNat p.b0.toNat p.b1.toNat p.b2.toNat = some p := by
  simp [packet?]

@[simp] theorem token?_tokenNats (t : Token) : token? (tokenNats t) = some t := by
  cases t <;> simp [tokenNats, token?]

@[simp] theorem program?_tokenNats (program : List Token) : program? (program.map tokenNats) = some program := by
  induction program with
  | nil => rfl
  | cons t ts ih => simp [program?, ih]

/-- A message read back from its operand, whatever reads it. -/
theorem oneMessage_messageOperand (f : Message → Instr) (m : Message) :
    oneMessage f [messageOperand m] = some (f m) := by
  cases m <;> simp [oneMessage, messageOperand, message?, channelFields, channelField, oneField, twoFields, threeFields,
    noField]

theorem cableMessage_messageOperand (f : U4 → Message → Instr) (cable : U4) (m : Message) :
    cableMessage f [.nat cable.toNat, messageOperand m] = some (f cable m) := by
  cases m <;> simp [cableMessage, messageOperand, message?, channelFields, channelField, oneField, twoFields,
    threeFields, noField]

theorem oneProgram_programOperand (f : List Token → Instr) (program : List Token) :
    oneProgram f [programOperand program] = some (f program) := by
  simp [oneProgram, programOperand]

/-- An operation code decodes by the reader R117 gives it. -/
theorem decodeCommand_of_read {code : Byte} {operands : List Operand} {read : List Operand → Option Instr} {i : Instr}
    (hc : operation? code.toNat = some read) (hr : read operands = some i) :
    decodeCommand code operands = .ok i := by
  simp [decodeCommand, hc, hr]

/-- An assigned code whose reader rejects the operands is refused by that name (R409). -/
theorem decodeCommand_of_rejected {code : Byte} {operands : List Operand} {read : List Operand → Option Instr}
    (hc : operation? code.toNat = some read) (hr : read operands = none) :
    decodeCommand code operands = .error (.operandType code) := by
  simp [decodeCommand, hc, hr]

/-- A list of numbers is read as bytes exactly when each is one. -/
theorem bytes?_isSome (ns : List Nat) : (bytes? ns).isSome = ns.all fun n => decide (n ≤ 0xFF) := by
  induction ns with
  | nil => rfl
  | cons n ns ih =>
    by_cases h : n < 256
    · have hn : n ≤ 255 := by omega
      rw [List.all_cons, ← ih]
      simp only [bytes?, narrow?, Nat.reducePow, h, hn, ↓reduceIte, decide_true, Bool.true_and]
      cases bytes? ns <;> rfl
    · have hn : ¬n ≤ 255 := by omega
      simp [bytes?, narrow?, h, hn]

end Sys2Proof
end

