-- ==== Sys2Proof/Laws/State.lean ====
section
/-! SUPPORT. What each update of State does to each field: the field it writes, and every other unchanged. -/

namespace Sys2Proof.Machine

/-! ### setPu -/

@[simp] theorem State.setPu_pu (s : State) (v : ParserState) : (s.setPu v).pu = v := rfl
@[simp] theorem State.setPu_rcLast (s : State) (v : ParserState) : (s.setPu v).rcLast = s.rcLast := rfl
@[simp] theorem State.setPu_scBuf (s : State) (v : ParserState) : (s.setPu v).scBuf = s.scBuf := rfl
@[simp] theorem State.setPu_tgMsgs (s : State) (v : ParserState) : (s.setPu v).tgMsgs = s.tgMsgs := rfl
@[simp] theorem State.setPu_tgK (s : State) (v : ParserState) : (s.setPu v).tgK = s.tgK := rfl
@[simp] theorem State.setPu_tgCable (s : State) (v : ParserState) : (s.setPu v).tgCable = s.tgCable := rfl
@[simp] theorem State.setPu_params (s : State) (v : ParserState) : (s.setPu v).params = s.params := rfl
@[simp] theorem State.setPu_pending (s : State) (v : ParserState) : (s.setPu v).pending = s.pending := rfl
@[simp] theorem State.setPu_output (s : State) (v : ParserState) : (s.setPu v).output = s.output := rfl

/-! ### setRcLast -/

@[simp] theorem State.setRcLast_pu (s : State) (v : Option Byte) : (s.setRcLast v).pu = s.pu := rfl
@[simp] theorem State.setRcLast_rcLast (s : State) (v : Option Byte) : (s.setRcLast v).rcLast = v := rfl
@[simp] theorem State.setRcLast_scBuf (s : State) (v : Option Byte) : (s.setRcLast v).scBuf = s.scBuf := rfl
@[simp] theorem State.setRcLast_tgMsgs (s : State) (v : Option Byte) : (s.setRcLast v).tgMsgs = s.tgMsgs := rfl
@[simp] theorem State.setRcLast_tgK (s : State) (v : Option Byte) : (s.setRcLast v).tgK = s.tgK := rfl
@[simp] theorem State.setRcLast_tgCable (s : State) (v : Option Byte) : (s.setRcLast v).tgCable = s.tgCable := rfl
@[simp] theorem State.setRcLast_params (s : State) (v : Option Byte) : (s.setRcLast v).params = s.params := rfl
@[simp] theorem State.setRcLast_pending (s : State) (v : Option Byte) : (s.setRcLast v).pending = s.pending := rfl
@[simp] theorem State.setRcLast_output (s : State) (v : Option Byte) : (s.setRcLast v).output = s.output := rfl

/-! ### setScBuf -/

@[simp] theorem State.setScBuf_pu (s : State) (v : List Byte) : (s.setScBuf v).pu = s.pu := rfl
@[simp] theorem State.setScBuf_rcLast (s : State) (v : List Byte) : (s.setScBuf v).rcLast = s.rcLast := rfl
@[simp] theorem State.setScBuf_scBuf (s : State) (v : List Byte) : (s.setScBuf v).scBuf = v := rfl
@[simp] theorem State.setScBuf_tgMsgs (s : State) (v : List Byte) : (s.setScBuf v).tgMsgs = s.tgMsgs := rfl
@[simp] theorem State.setScBuf_tgK (s : State) (v : List Byte) : (s.setScBuf v).tgK = s.tgK := rfl
@[simp] theorem State.setScBuf_tgCable (s : State) (v : List Byte) : (s.setScBuf v).tgCable = s.tgCable := rfl
@[simp] theorem State.setScBuf_params (s : State) (v : List Byte) : (s.setScBuf v).params = s.params := rfl
@[simp] theorem State.setScBuf_pending (s : State) (v : List Byte) : (s.setScBuf v).pending = s.pending := rfl
@[simp] theorem State.setScBuf_output (s : State) (v : List Byte) : (s.setScBuf v).output = s.output := rfl

/-! ### setTgMsgs -/

@[simp] theorem State.setTgMsgs_pu (s : State) (v : List Message) : (s.setTgMsgs v).pu = s.pu := rfl
@[simp] theorem State.setTgMsgs_rcLast (s : State) (v : List Message) : (s.setTgMsgs v).rcLast = s.rcLast := rfl
@[simp] theorem State.setTgMsgs_scBuf (s : State) (v : List Message) : (s.setTgMsgs v).scBuf = s.scBuf := rfl
@[simp] theorem State.setTgMsgs_tgMsgs (s : State) (v : List Message) : (s.setTgMsgs v).tgMsgs = v := rfl
@[simp] theorem State.setTgMsgs_tgK (s : State) (v : List Message) : (s.setTgMsgs v).tgK = s.tgK := rfl
@[simp] theorem State.setTgMsgs_tgCable (s : State) (v : List Message) : (s.setTgMsgs v).tgCable = s.tgCable := rfl
@[simp] theorem State.setTgMsgs_params (s : State) (v : List Message) : (s.setTgMsgs v).params = s.params := rfl
@[simp] theorem State.setTgMsgs_pending (s : State) (v : List Message) : (s.setTgMsgs v).pending = s.pending := rfl
@[simp] theorem State.setTgMsgs_output (s : State) (v : List Message) : (s.setTgMsgs v).output = s.output := rfl

/-! ### setTgK -/

@[simp] theorem State.setTgK_pu (s : State) (v : Nat) : (s.setTgK v).pu = s.pu := rfl
@[simp] theorem State.setTgK_rcLast (s : State) (v : Nat) : (s.setTgK v).rcLast = s.rcLast := rfl
@[simp] theorem State.setTgK_scBuf (s : State) (v : Nat) : (s.setTgK v).scBuf = s.scBuf := rfl
@[simp] theorem State.setTgK_tgMsgs (s : State) (v : Nat) : (s.setTgK v).tgMsgs = s.tgMsgs := rfl
@[simp] theorem State.setTgK_tgK (s : State) (v : Nat) : (s.setTgK v).tgK = v := rfl
@[simp] theorem State.setTgK_tgCable (s : State) (v : Nat) : (s.setTgK v).tgCable = s.tgCable := rfl
@[simp] theorem State.setTgK_params (s : State) (v : Nat) : (s.setTgK v).params = s.params := rfl
@[simp] theorem State.setTgK_pending (s : State) (v : Nat) : (s.setTgK v).pending = s.pending := rfl
@[simp] theorem State.setTgK_output (s : State) (v : Nat) : (s.setTgK v).output = s.output := rfl

/-! ### setTgCable -/

@[simp] theorem State.setTgCable_pu (s : State) (v : U4) : (s.setTgCable v).pu = s.pu := rfl
@[simp] theorem State.setTgCable_rcLast (s : State) (v : U4) : (s.setTgCable v).rcLast = s.rcLast := rfl
@[simp] theorem State.setTgCable_scBuf (s : State) (v : U4) : (s.setTgCable v).scBuf = s.scBuf := rfl
@[simp] theorem State.setTgCable_tgMsgs (s : State) (v : U4) : (s.setTgCable v).tgMsgs = s.tgMsgs := rfl
@[simp] theorem State.setTgCable_tgK (s : State) (v : U4) : (s.setTgCable v).tgK = s.tgK := rfl
@[simp] theorem State.setTgCable_tgCable (s : State) (v : U4) : (s.setTgCable v).tgCable = v := rfl
@[simp] theorem State.setTgCable_params (s : State) (v : U4) : (s.setTgCable v).params = s.params := rfl
@[simp] theorem State.setTgCable_pending (s : State) (v : U4) : (s.setTgCable v).pending = s.pending := rfl
@[simp] theorem State.setTgCable_output (s : State) (v : U4) : (s.setTgCable v).output = s.output := rfl

/-! ### setPending -/

@[simp] theorem State.setPending_pu (s : State) (v : List Event) : (s.setPending v).pu = s.pu := rfl
@[simp] theorem State.setPending_rcLast (s : State) (v : List Event) : (s.setPending v).rcLast = s.rcLast := rfl
@[simp] theorem State.setPending_scBuf (s : State) (v : List Event) : (s.setPending v).scBuf = s.scBuf := rfl
@[simp] theorem State.setPending_tgMsgs (s : State) (v : List Event) : (s.setPending v).tgMsgs = s.tgMsgs := rfl
@[simp] theorem State.setPending_tgK (s : State) (v : List Event) : (s.setPending v).tgK = s.tgK := rfl
@[simp] theorem State.setPending_tgCable (s : State) (v : List Event) : (s.setPending v).tgCable = s.tgCable := rfl
@[simp] theorem State.setPending_params (s : State) (v : List Event) : (s.setPending v).params = s.params := rfl
@[simp] theorem State.setPending_pending (s : State) (v : List Event) : (s.setPending v).pending = v := rfl
@[simp] theorem State.setPending_output (s : State) (v : List Event) : (s.setPending v).output = s.output := rfl

/-! ### setOutput -/

@[simp] theorem State.setOutput_pu (s : State) (v : Option OpResult) : (s.setOutput v).pu = s.pu := rfl
@[simp] theorem State.setOutput_rcLast (s : State) (v : Option OpResult) : (s.setOutput v).rcLast = s.rcLast := rfl
@[simp] theorem State.setOutput_scBuf (s : State) (v : Option OpResult) : (s.setOutput v).scBuf = s.scBuf := rfl
@[simp] theorem State.setOutput_tgMsgs (s : State) (v : Option OpResult) : (s.setOutput v).tgMsgs = s.tgMsgs := rfl
@[simp] theorem State.setOutput_tgK (s : State) (v : Option OpResult) : (s.setOutput v).tgK = s.tgK := rfl
@[simp] theorem State.setOutput_tgCable (s : State) (v : Option OpResult) : (s.setOutput v).tgCable = s.tgCable := rfl
@[simp] theorem State.setOutput_params (s : State) (v : Option OpResult) : (s.setOutput v).params = s.params := rfl
@[simp] theorem State.setOutput_pending (s : State) (v : Option OpResult) : (s.setOutput v).pending = s.pending := rfl
@[simp] theorem State.setOutput_output (s : State) (v : Option OpResult) : (s.setOutput v).output = v := rfl

end Sys2Proof.Machine
end

