-- ==== Sys2Proof/Laws/Ops.lean ====
section
/-! SUPPORT. What each shared operation of the machine can do, said once: proofs cite these and do not unfold the
operation. -/

namespace Sys2Proof.Machine

/-! ### Ending an operation -/

theorem finish_next_iff {v : Value} {s t : State} : finish v s = .next t ↔ t = s.setOutput (some (.ok v)) := by
  simp [finish, eq_comm]

theorem raise_next_iff {e : ErrorKind} {s t : State} : raise e s = .next t ↔ t = s.setOutput (some (.err e)) := by
  simp [raise, eq_comm]

@[simp] theorem conclude_ok (v : Value) (s : State) : conclude (.ok v) s = finish v s := rfl

@[simp] theorem conclude_error (e : ErrorKind) (s : State) : conclude (.error e) s = raise e s := rfl

/-- `conclude` writes the output and nothing else. -/
theorem conclude_next {r : Except ErrorKind Value} {s t : State} (h : conclude r s = .next t) :
    t = s.setOutput t.output := by
  cases r <;> simp [conclude, finish, raise] at h <;> subst h <;> rfl

/-! ### The capture buffer -/

@[simp] theorem memWrite_at_length (capacity : Nat) (buf : List Byte) (v : Byte) :
    memWrite capacity buf buf.length v = if buf.length < capacity then some (buf ++ [v]) else none := by
  simp [memWrite]

/-- The appends of R341 succeed exactly as long as the capacity holds them. -/
theorem memAppend_of_fits {capacity : Nat} {buf vs : List Byte} (h : buf.length + vs.length ≤ capacity) :
    memAppend capacity buf vs = some (buf ++ vs) := by
  induction vs generalizing buf with
  | nil => simp [memAppend]
  | cons v vs ih =>
    simp only [List.length_cons] at h
    have fits : buf.length < capacity := by omega
    simp only [memAppend, memWrite_at_length, fits, ↓reduceIte]
    rw [ih (by simp; omega)]
    simp

theorem memReadFrom_suffix (pre buf : List Byte) : memReadFrom (pre ++ buf) pre.length buf.length = some buf := by
  induction buf generalizing pre with
  | nil => rfl
  | cons b bs ih =>
    have h := ih (pre ++ [b])
    simp only [List.append_assoc, List.singleton_append, List.length_append, List.length_singleton] at h
    simp [memReadFrom, memRead, h]

/-- The reads of R350 give the whole buffer. -/
theorem memReadFrom_all (buf : List Byte) : memReadFrom buf 0 buf.length = some buf := memReadFrom_suffix [] buf

/-- CAPTURE_READ never faults. -/
theorem execCaptureRead_eq (s : State) : execCaptureRead s = finish (.bytes s.scBuf) s := by
  simp [execCaptureRead, memReadFrom_all]

/-- APPEND is all or nothing (R341), and never faults. -/
theorem captureAppend_eq (bytes : List Byte) (result : Nat → CaptureResult) (s : State) :
    captureAppend bytes result s =
      if s.params.captureCapacity < s.scBuf.length + bytes.length then raise .bufferOverflow (s.setScBuf [])
      else finish (.capture (result (s.scBuf.length + bytes.length))) (s.setScBuf (s.scBuf ++ bytes)) := by
  unfold captureAppend
  split
  · rfl
  · rw [memAppend_of_fits (by omega)]
    simp

/-- Whatever APPEND answers, it is a next state that differs in the buffer and the output alone. -/
theorem captureAppend_next (bytes : List Byte) (result : Nat → CaptureResult) (s : State) :
    ∃ buf o, captureAppend bytes result s = .next ((s.setScBuf buf).setOutput (some o)) := by
  rw [captureAppend_eq]
  split
  · exact ⟨_, _, rfl⟩
  · exact ⟨_, _, rfl⟩

/-! ### The canonical form of the capture buffer -/

theorem memory_wf_iff {capacity : Nat} {buf : List Byte} :
    Memory.wf capacity buf = true ↔ buf.length ≤ capacity ∧ ∀ b ∈ buf, b.toNat < 0x80 := by
  simp [Memory.wf, isBodyByte]

@[simp] theorem memory_wf_nil (capacity : Nat) : Memory.wf capacity [] = true := by simp [memory_wf_iff]

/-- A write of a body byte keeps the form. -/
theorem memWrite_wf {capacity i : Nat} {buf buf' : List Byte} {v : Byte} (hv : v.toNat < 0x80)
    (h : memWrite capacity buf i v = some buf') (hw : Memory.wf capacity buf = true) :
    Memory.wf capacity buf' = true := by
  unfold memWrite at h
  split at h
  · simp only [Option.some.injEq] at h
    subst h
    rw [memory_wf_iff] at *
    refine ⟨by simp; omega, fun b hb => ?_⟩
    rcases List.mem_append.mp hb with hb | hb
    · exact hw.2 b hb
    · simp_all
  · cases h

/-- Appends of body bytes keep the form. -/
theorem memAppend_wf {capacity : Nat} {buf vs buf' : List Byte} (hv : ∀ v ∈ vs, v.toNat < 0x80)
    (h : memAppend capacity buf vs = some buf') (hw : Memory.wf capacity buf = true) :
    Memory.wf capacity buf' = true := by
  induction vs generalizing buf with
  | nil => simp_all [memAppend]
  | cons v vs ih =>
    simp only [memAppend] at h
    split at h
    · rename_i buf'' hwrite
      exact ih (fun x hx => hv x (List.mem_cons_of_mem _ hx)) h (memWrite_wf (hv v List.mem_cons_self) hwrite hw)
    · cases h

/-- A data field's byte is a body byte. -/
@[simp] theorem fieldByte_toNat (d : U7) : (fieldByte d).toNat = d.toNat := by
  simp only [fieldByte, BitVec.toNat_setWidth]
  have := d.isLt
  omega

theorem fieldByte_lt (d : U7) : (fieldByte d).toNat < 0x80 := by
  rw [fieldByte_toNat]
  exact d.isLt

/-- The buffer of a newly built machine has the form. -/
theorem initial_memory_wf (params : Params) :
    Memory.wf (State.initial params).params.captureCapacity (State.initial params).scBuf = true := memory_wf_nil _

/-- A CAPTURE_STEP always answers a next state, which differs in the buffer and the output alone. -/
theorem execCaptureStep_next (m : Message) (s : State) :
    ∃ buf o, execCaptureStep m s = .next ((s.setScBuf buf).setOutput (some o)) := by
  have same : ∀ o : OpResult, ∃ buf o', (Host.Outcome.next (s.setOutput (some o)) : StepOutcome) =
      .next ((s.setScBuf buf).setOutput (some o')) := fun o => ⟨s.scBuf, o, rfl⟩
  have clear : ∀ o : OpResult, ∃ buf o', (Host.Outcome.next ((s.setScBuf []).setOutput (some o)) : StepOutcome) =
      .next ((s.setScBuf buf).setOutput (some o')) := fun o => ⟨[], o, rfl⟩
  cases m <;> simp only [execCaptureStep, captureBegin, captureCont, captureEnd, captureLast, captureSingle,
    captureEmpty, captureOther, captureAppend_eq, finish, raise] <;> (repeat' split) <;>
    first | exact same _ | exact clear _ | exact ⟨_, _, rfl⟩

/-! ### The compressor -/

/-- RC_PACK of one to three bytes answers a next state, which differs in `RC.last_status` and the output alone. -/
theorem execRcPack_next {payload : List Byte} {s t : State} (h : execRcPack payload s = .next t) :
    ∃ last o, t = (s.setRcLast last).setOutput (some o) := by
  unfold execRcPack at h
  split at h
  · cases h
  · split at h
    · unfold packPayload at h
      split at h
      · split at h
        · rw [finish_next_iff] at h; exact ⟨s.rcLast, _, h⟩
        · rw [finish_next_iff] at h; exact ⟨_, _, h⟩
      · rw [finish_next_iff] at h; exact ⟨_, _, h⟩
    · cases h

/-- RC_SERIALIZE likewise. -/
theorem execRcSerialize_next {p : Packet} {s t : State} (h : execRcSerialize p s = .next t) :
    ∃ last o, t = (s.setRcLast last).setOutput (some o) := by
  unfold execRcSerialize at h
  split at h
  · rw [raise_next_iff] at h; exact ⟨s.rcLast, _, h⟩
  · exact execRcPack_next h

/-! ### The parser -/

/-- A packet the parser emits is on `PARSER_CABLE` (R240). -/
theorem parseSome_eq (cin : U4) (bytes : List Byte) (s : State) :
    parseSome cin bytes s =
      .next (s.setOutput (some (.ok (.optPacket (some (makePacket s.params.parserCable cin bytes)))))) := rfl

theorem parseNone_eq (s : State) : parseNone s = .next (s.setOutput (some (.ok (.optPacket none)))) := rfl

theorem parseError_eq (e : ErrorKind) (s : State) :
    parseError e s = .next ((s.setPu .idle).setOutput (some (.err e))) := rfl

theorem parseRealtime_eq (b : Byte) (s : State) :
    parseRealtime b s =
      .next (s.setOutput (some (.ok (.optPacket (some (makePacket s.params.parserCable 0xF [b])))))) := rfl

theorem parseSysexStart_eq (s : State) :
    parseSysexStart s = .next ((s.setPu (.inSysex [0xF0])).setOutput (some (.ok (.optPacket none)))) := rfl

/-- Whatever the parser does with a status byte is a next state that differs in `PU.state` and the output alone. -/
theorem parseStatusByte_next (b : Byte) (s : State) :
    ∃ pu o, parseStatusByte b s = .next ((s.setPu pu).setOutput (some o)) := by
  unfold parseStatusByte
  split
  · exact ⟨_, _, rfl⟩
  · split <;> exact ⟨_, _, rfl⟩

/-- The same for a data byte. -/
theorem parseDataByte_next (b : Byte) (s : State) :
    ∃ pu o, parseDataByte b s = .next ((s.setPu pu).setOutput (some o)) := by
  unfold parseDataByte
  split
  · exact ⟨_, _, rfl⟩
  · unfold parseDataAwaiting
    split
    · exact ⟨_, _, rfl⟩
    · split <;> exact ⟨_, _, rfl⟩
  · unfold parseDataSysex
    split <;> exact ⟨_, _, rfl⟩

/-- The same for 0xF7, unless the scratch area holds more than R32 allows. -/
theorem parseEndByte_next {s t : State} (h : parseEndByte s = .next t) :
    ∃ pu o, t = (s.setPu pu).setOutput (some o) := by
  have key : ∀ (pu : ParserState) (o : OpResult),
      (Host.Outcome.next ((s.setPu pu).setOutput (some o)) : StepOutcome) = .next t →
      ∃ pu o, t = (s.setPu pu).setOutput (some o) := fun pu o h => ⟨pu, o, (Host.Outcome.next.inj h).symm⟩
  unfold parseEndByte at h
  split at h
  · unfold parseSysexEnd at h
    split at h
    · exact key _ _ h
    · exact key _ _ h
    · exact key _ _ h
    · cases h
  · exact key _ _ h
  · exact key _ _ h

/-- PARSE_BYTE writes `PU.state` and the output and nothing else. -/
theorem execParseByte_next {b : Byte} {s t : State} (h : execParseByte b s = .next t) :
    ∃ pu o, t = (s.setPu pu).setOutput (some o) := by
  simp only [execParseByte] at h
  split at h
  · rw [parseRealtime_eq] at h
    cases h
    exact ⟨s.pu, _, rfl⟩
  · split at h
    · rw [parseSysexStart_eq] at h
      cases h
      exact ⟨_, _, rfl⟩
    · split at h
      · exact parseEndByte_next h
      · split at h
        · obtain ⟨pu, o, e⟩ := parseStatusByte_next b s
          rw [e] at h
          cases h
          exact ⟨pu, o, rfl⟩
        · obtain ⟨pu, o, e⟩ := parseDataByte_next b s
          rw [e] at h
          cases h
          exact ⟨pu, o, rfl⟩

/-! ### Tokens -/

@[simp] theorem flatten_append (xs ys : List Token) : flatten (xs ++ ys) = flatten xs ++ flatten ys := by
  induction xs with
  | nil => rfl
  | cons t ts ih => simp [flatten, ih]

theorem flatten_eq_flatMap (program : List Token) : flatten program = program.flatMap tokenBytes := by
  induction program with
  | nil => rfl
  | cons t ts ih => simp [flatten, ih]

@[simp] theorem tokenBytes_length (t : Token) : (tokenBytes t).length = tokenWidth t := by
  cases t with
  | skip n => simp [tokenBytes, tokenWidth]
  | val b => simp [tokenBytes, tokenWidth]
  | seq bs => simp [tokenBytes, tokenWidth]
  | cap f => cases f <;> simp [tokenBytes, tokenWidth]

/-- A well-formed program flattens to body bytes (R116, R371). -/
theorem flatten_body {program : List Token} (h : programWellFormed program = true) :
    ∀ b ∈ flatten program, b.toNat < 0x80 := by
  induction program with
  | nil => simp [flatten]
  | cons t ts ih =>
    simp only [programWellFormed, List.all_cons, Bool.and_eq_true] at h
    intro b hb
    rcases List.mem_append.mp hb with hb | hb
    · cases t with
      | skip n => simp [tokenBytes] at hb; simp [hb]
      | val v => simp_all [tokenBytes, tokenWellFormed, isBodyByte]
      | seq bs => simp_all [tokenBytes, tokenWellFormed, isBodyByte]
      | cap f => cases f <;> simp [tokenBytes] at hb; simp [hb]
    · exact ih h.2 b hb

/-- Framing gives sysex fragments only (R38, R372). -/
theorem frameRest_fragments (d : List U7) : (frameRest d).all isSysexFragment = true := by
  induction d using frameRest.induct with
  | case1 => rfl
  | case2 a => rfl
  | case3 a b => rfl
  | case4 a b c rest ih =>
    rw [frameRest, List.all_cons, ih]
    rfl

theorem frame_fragments (d : List Byte) : (frame d).all isSysexFragment = true := by
  unfold frame frameBody
  split
  · rfl
  · rfl
  · rw [List.all_cons, frameRest_fragments]
    rfl

end Sys2Proof.Machine
end

