-- ==== Sys2Proof/Laws/PerInstr.lean ====
section
/-! SUPPORT. One law per instruction: the word the encoder writes for it has, under its row's mask, its row's match, as
spec/opcode_table.json gives the two. -/

namespace Sys2Proof.Laws.TableRow

/-- The word of an input as spec/opcode_table.json numbers its bits: an operation code or a serial byte alone, a USB
record with its first wire byte most significant (R71). -/
def word : Input → BitVec 32
  | .command code _ => code.setWidth 32
  | .serial b => b.setWidth 32
  | .usb w0 w1 w2 w3 => w0 ++ w1 ++ w2 ++ w3

/-- A row's mask and match, copied from spec/opcode_table.json. -/
def row : Instr → BitVec 32 × BitVec 32
  | .cull _ _ => (0xFF, 0x01)
  | .fill _ _ => (0xFF, 0x02)
  | .fromDirect _ _ => (0xFF, 0x03)
  | .toWide _ _ => (0xFF, 0x04)
  | .u14FromPair _ _ => (0xFF, 0x05)
  | .u14ToPair _ => (0xFF, 0x06)
  | .channelFromExternal _ => (0xFF, 0x07)
  | .channelToExternal _ => (0xFF, 0x08)
  | .cableFromInt _ => (0xFF, 0x09)
  | .cinFromInt _ => (0xFF, 0x0A)
  | .packetMake _ _ _ => (0xFF, 0x10)
  | .packetFromWire _ _ _ _ => (0xFF, 0x11)
  | .packetToWire _ => (0xFF, 0x12)
  | .payloadLen _ => (0xFF, 0x13)
  | .packetPayload _ => (0xFF, 0x14)
  | .isData _ => (0xFF, 0x20)
  | .isStatus _ => (0xFF, 0x21)
  | .isChannelVoice _ => (0xFF, 0x22)
  | .isRealtime _ => (0xFF, 0x23)
  | .classify _ => (0xFF, 0x24)
  | .expectedLen _ => (0xFF, 0x25)
  | .channelOf _ => (0xFF, 0x26)
  | .rcPack _ => (0xFF, 0x30)
  | .rcSerialize _ => (0xFF, 0x31)
  | .rcReset => (0xFF, 0x32)
  | .parseByte _ => (0xFF, 0x40)
  | .parserReset => (0xFF, 0x41)
  | .encodeMessage _ _ => (0xFF, 0x50)
  | .decodePacket _ => (0xFF, 0x51)
  | .captureStep _ => (0xFF, 0x60)
  | .captureRead => (0xFF, 0x61)
  | .captureClear => (0xFF, 0x62)
  | .tokenFlatten _ => (0xFF, 0x70)
  | .tokenFrame _ => (0xFF, 0x71)
  | .genStart _ _ => (0xFF, 0x72)
  | .genNext => (0xFF, 0x73)
  | .genRestart => (0xFF, 0x74)
  | .matchProgram _ _ => (0xFF, 0x75)
  | .byteNoteOff _ => (0xF0, 0x80)
  | .byteNoteOn _ => (0xF0, 0x90)
  | .byteNotePressure _ => (0xF0, 0xA0)
  | .byteControlChange _ => (0xF0, 0xB0)
  | .byteProgramChange _ => (0xF0, 0xC0)
  | .byteChannelPressure _ => (0xF0, 0xD0)
  | .bytePitchBend _ => (0xF0, 0xE0)
  | .byteSysexStart => (0xFF, 0xF0)
  | .byteTimeCodeQuarterFrame => (0xFF, 0xF1)
  | .byteSongPositionPointer => (0xFF, 0xF2)
  | .byteSongSelect => (0xFF, 0xF3)
  | .byteUndefinedF4 => (0xFF, 0xF4)
  | .byteUndefinedF5 => (0xFF, 0xF5)
  | .byteTuneRequest => (0xFF, 0xF6)
  | .byteSysexEndInSysex => (0xFF, 0xF7)
  | .byteSysexEndSpurious => (0xFF, 0xF7)
  | .byteTimingClock => (0xFF, 0xF8)
  | .byteMeasureEnd => (0xFF, 0xF9)
  | .byteStart => (0xFF, 0xFA)
  | .byteContinue => (0xFF, 0xFB)
  | .byteStop => (0xFF, 0xFC)
  | .byteUndefinedFD => (0xFF, 0xFD)
  | .byteActiveSensing => (0xFF, 0xFE)
  | .byteSystemReset => (0xFF, 0xFF)
  | .byteDataIdle _ => (0x80, 0x00)
  | .byteDataAwaitingData _ => (0x80, 0x00)
  | .byteDataInSysex _ => (0x80, 0x00)
  | .pktNoteOff _ _ _ _ => (0x0FF00000, 0x08800000)
  | .pktNoteOn _ _ _ _ => (0x0FF00000, 0x09900000)
  | .pktNotePressure _ _ _ _ => (0x0FF00000, 0x0AA00000)
  | .pktControlChange _ _ _ _ => (0x0FF00000, 0x0BB00000)
  | .pktProgramChange _ _ _ _ => (0x0FF00000, 0x0CC00000)
  | .pktChannelPressure _ _ _ _ => (0x0FF00000, 0x0DD00000)
  | .pktPitchBend _ _ _ _ => (0x0FF00000, 0x0EE00000)
  | .pktTimeCodeQuarterFrame _ _ _ => (0x0FFF0000, 0x02F10000)
  | .pktSongSelect _ _ _ => (0x0FFF0000, 0x02F30000)
  | .pktSongPositionPointer _ _ _ => (0x0FFF0000, 0x03F20000)
  | .pktSysexBegin _ _ _ => (0x0FFF0000, 0x04F00000)
  | .pktSysexCont _ _ _ _ => (0x0F800000, 0x04000000)
  | .pktTuneRequest _ _ _ => (0x0FFF0000, 0x05F60000)
  | .pktSysexEnd _ _ _ => (0x0FFF0000, 0x05F70000)
  | .pktSysexEmpty _ _ => (0x0FFFFF00, 0x06F0F700)
  | .pktSysexEnd1 _ _ _ => (0x0F80FF00, 0x0600F700)
  | .pktSysexSingleByte _ _ => (0x0FFF00FF, 0x07F000F7)
  | .pktSysexEnd2 _ _ _ => (0x0F8000FF, 0x070000F7)
  | .pktTimingClock _ _ _ => (0x0FFF0000, 0x0FF80000)
  | .pktMeasureEnd _ _ _ => (0x0FFF0000, 0x0FF90000)
  | .pktStart _ _ _ => (0x0FFF0000, 0x0FFA0000)
  | .pktContinue _ _ _ => (0x0FFF0000, 0x0FFB0000)
  | .pktStop _ _ _ => (0x0FFF0000, 0x0FFC0000)
  | .pktActiveSensing _ _ _ => (0x0FFF0000, 0x0FFE0000)
  | .pktSystemReset _ _ _ => (0x0FFF0000, 0x0FFF0000)

/-- The encoder's word lies in the instruction's row of the table. -/
def Statement (i : Instr) : Prop := word (encode i) &&& (row i).1 = (row i).2

/-- The bits of a record's word under a mask: the mask's bytes over the record's bytes. -/
theorem word_usb (w0 w1 w2 w3 m0 m1 m2 m3 : Byte) :
    word (.usb w0 w1 w2 w3) &&& (m0 ++ m1 ++ m2 ++ m3) = (w0 &&& m0) ++ (w1 &&& m1) ++ (w2 &&& m2) ++ (w3 &&& m3) := by
  change (w0 ++ w1 ++ w2 ++ w3 : BitVec (8 + 8 + 8 + 8)) &&& (m0 ++ m1 ++ m2 ++ m3) = _
  rw [BitVec.and_append, BitVec.and_append, BitVec.and_append]

/-- The header byte under its mask: the cable is free. -/
theorem header_mask (cable cin : U4) : (cable ++ cin) &&& 0x0F#8 = 0#4 ++ cin := by
  revert cable cin
  decide

/-- A channel-voice status under its mask: the channel is free. -/
theorem voice_mask (kind ch : U4) : (kind ++ ch) &&& 0xF0#8 = kind ++ 0#4 := by
  revert kind ch
  decide

/-- A data byte under its mask. -/
theorem data_mask (d : U7) : dataByte d &&& 0x80#8 = 0#8 := by
  revert d
  decide

/-- A record's word under the mask of its row. -/
theorem record (cable cin : U4) (b0 b1 b2 m0 m1 m2 v0 v1 v2 : Byte) (h0 : b0 &&& m0 = v0) (h1 : b1 &&& m1 = v1)
    (h2 : b2 &&& m2 = v2) :
    word (usbRecord cable cin b0 b1 b2) &&& (0x0F#8 ++ m0 ++ m1 ++ m2) = (0#4 ++ cin) ++ v0 ++ v1 ++ v2 := by
  rw [usbRecord, word_usb, header_mask, h0, h1, h2]

theorem cull (n : Width) (wide : Nat) :
    Statement (.cull n wide) := by
  change BitVec.setWidth 32 0x01#8 &&& 0xFF#32 = 0x01#32
  decide

theorem fill (n : Width) (wide : Nat) :
    Statement (.fill n wide) := by
  change BitVec.setWidth 32 0x02#8 &&& 0xFF#32 = 0x02#32
  decide

theorem fromDirect (n : Width) (wide : Nat) :
    Statement (.fromDirect n wide) := by
  change BitVec.setWidth 32 0x03#8 &&& 0xFF#32 = 0x03#32
  decide

theorem toWide (n : Width) (v : Nat) :
    Statement (.toWide n v) := by
  change BitVec.setWidth 32 0x04#8 &&& 0xFF#32 = 0x04#32
  decide

theorem u14FromPair (msb : Byte) (lsb : Byte) :
    Statement (.u14FromPair msb lsb) := by
  change BitVec.setWidth 32 0x05#8 &&& 0xFF#32 = 0x05#32
  decide

theorem u14ToPair (v : U14) :
    Statement (.u14ToPair v) := by
  change BitVec.setWidth 32 0x06#8 &&& 0xFF#32 = 0x06#32
  decide

theorem channelFromExternal (e : Nat) :
    Statement (.channelFromExternal e) := by
  change BitVec.setWidth 32 0x07#8 &&& 0xFF#32 = 0x07#32
  decide

theorem channelToExternal (c : U4) :
    Statement (.channelToExternal c) := by
  change BitVec.setWidth 32 0x08#8 &&& 0xFF#32 = 0x08#32
  decide

theorem cableFromInt (x : Nat) :
    Statement (.cableFromInt x) := by
  change BitVec.setWidth 32 0x09#8 &&& 0xFF#32 = 0x09#32
  decide

theorem cinFromInt (x : Nat) :
    Statement (.cinFromInt x) := by
  change BitVec.setWidth 32 0x0A#8 &&& 0xFF#32 = 0x0A#32
  decide

theorem packetMake (cable : U4) (cin : U4) (bytes : List Byte) :
    Statement (.packetMake cable cin bytes) := by
  change BitVec.setWidth 32 0x10#8 &&& 0xFF#32 = 0x10#32
  decide

theorem packetFromWire (w0 : Byte) (w1 : Byte) (w2 : Byte) (w3 : Byte) :
    Statement (.packetFromWire w0 w1 w2 w3) := by
  change BitVec.setWidth 32 0x11#8 &&& 0xFF#32 = 0x11#32
  decide

theorem packetToWire (p : Packet) :
    Statement (.packetToWire p) := by
  change BitVec.setWidth 32 0x12#8 &&& 0xFF#32 = 0x12#32
  decide

theorem payloadLen (cin : U4) :
    Statement (.payloadLen cin) := by
  change BitVec.setWidth 32 0x13#8 &&& 0xFF#32 = 0x13#32
  decide

theorem packetPayload (p : Packet) :
    Statement (.packetPayload p) := by
  change BitVec.setWidth 32 0x14#8 &&& 0xFF#32 = 0x14#32
  decide

theorem isData (b : Byte) :
    Statement (.isData b) := by
  change BitVec.setWidth 32 0x20#8 &&& 0xFF#32 = 0x20#32
  decide

theorem isStatus (b : Byte) :
    Statement (.isStatus b) := by
  change BitVec.setWidth 32 0x21#8 &&& 0xFF#32 = 0x21#32
  decide

theorem isChannelVoice (b : Byte) :
    Statement (.isChannelVoice b) := by
  change BitVec.setWidth 32 0x22#8 &&& 0xFF#32 = 0x22#32
  decide

theorem isRealtime (b : Byte) :
    Statement (.isRealtime b) := by
  change BitVec.setWidth 32 0x23#8 &&& 0xFF#32 = 0x23#32
  decide

theorem classify (b : Byte) :
    Statement (.classify b) := by
  change BitVec.setWidth 32 0x24#8 &&& 0xFF#32 = 0x24#32
  decide

theorem expectedLen (k : StatusKind) :
    Statement (.expectedLen k) := by
  change BitVec.setWidth 32 0x25#8 &&& 0xFF#32 = 0x25#32
  decide

theorem channelOf (b : Byte) :
    Statement (.channelOf b) := by
  change BitVec.setWidth 32 0x26#8 &&& 0xFF#32 = 0x26#32
  decide

theorem rcPack (payload : List Byte) :
    Statement (.rcPack payload) := by
  change BitVec.setWidth 32 0x30#8 &&& 0xFF#32 = 0x30#32
  decide

theorem rcSerialize (p : Packet) :
    Statement (.rcSerialize p) := by
  change BitVec.setWidth 32 0x31#8 &&& 0xFF#32 = 0x31#32
  decide

theorem rcReset :
    Statement (.rcReset) := by
  change BitVec.setWidth 32 0x32#8 &&& 0xFF#32 = 0x32#32
  decide

theorem parseByte (b : Byte) :
    Statement (.parseByte b) := by
  change BitVec.setWidth 32 0x40#8 &&& 0xFF#32 = 0x40#32
  decide

theorem parserReset :
    Statement (.parserReset) := by
  change BitVec.setWidth 32 0x41#8 &&& 0xFF#32 = 0x41#32
  decide

theorem encodeMessage (cable : U4) (m : Message) :
    Statement (.encodeMessage cable m) := by
  change BitVec.setWidth 32 0x50#8 &&& 0xFF#32 = 0x50#32
  decide

theorem decodePacket (p : Packet) :
    Statement (.decodePacket p) := by
  change BitVec.setWidth 32 0x51#8 &&& 0xFF#32 = 0x51#32
  decide

theorem captureStep (m : Message) :
    Statement (.captureStep m) := by
  change BitVec.setWidth 32 0x60#8 &&& 0xFF#32 = 0x60#32
  decide

theorem captureRead :
    Statement (.captureRead) := by
  change BitVec.setWidth 32 0x61#8 &&& 0xFF#32 = 0x61#32
  decide

theorem captureClear :
    Statement (.captureClear) := by
  change BitVec.setWidth 32 0x62#8 &&& 0xFF#32 = 0x62#32
  decide

theorem tokenFlatten (program : List Token) :
    Statement (.tokenFlatten program) := by
  change BitVec.setWidth 32 0x70#8 &&& 0xFF#32 = 0x70#32
  decide

theorem tokenFrame (d : List Byte) :
    Statement (.tokenFrame d) := by
  change BitVec.setWidth 32 0x71#8 &&& 0xFF#32 = 0x71#32
  decide

theorem genStart (program : List Token) (cable : U4) :
    Statement (.genStart program cable) := by
  change BitVec.setWidth 32 0x72#8 &&& 0xFF#32 = 0x72#32
  decide

theorem genNext :
    Statement (.genNext) := by
  change BitVec.setWidth 32 0x73#8 &&& 0xFF#32 = 0x73#32
  decide

theorem genRestart :
    Statement (.genRestart) := by
  change BitVec.setWidth 32 0x74#8 &&& 0xFF#32 = 0x74#32
  decide

theorem matchProgram (buf : List Byte) (program : List Token) :
    Statement (.matchProgram buf program) := by
  change BitVec.setWidth 32 0x75#8 &&& 0xFF#32 = 0x75#32
  decide

theorem byteNoteOff (ch : U4) :
    Statement (.byteNoteOff ch) := by
  unfold Statement
  revert ch
  decide

theorem byteNoteOn (ch : U4) :
    Statement (.byteNoteOn ch) := by
  unfold Statement
  revert ch
  decide

theorem byteNotePressure (ch : U4) :
    Statement (.byteNotePressure ch) := by
  unfold Statement
  revert ch
  decide

theorem byteControlChange (ch : U4) :
    Statement (.byteControlChange ch) := by
  unfold Statement
  revert ch
  decide

theorem byteProgramChange (ch : U4) :
    Statement (.byteProgramChange ch) := by
  unfold Statement
  revert ch
  decide

theorem byteChannelPressure (ch : U4) :
    Statement (.byteChannelPressure ch) := by
  unfold Statement
  revert ch
  decide

theorem bytePitchBend (ch : U4) :
    Statement (.bytePitchBend ch) := by
  unfold Statement
  revert ch
  decide

theorem byteSysexStart :
    Statement (.byteSysexStart) := by
  unfold Statement
  decide

theorem byteTimeCodeQuarterFrame :
    Statement (.byteTimeCodeQuarterFrame) := by
  unfold Statement
  decide

theorem byteSongPositionPointer :
    Statement (.byteSongPositionPointer) := by
  unfold Statement
  decide

theorem byteSongSelect :
    Statement (.byteSongSelect) := by
  unfold Statement
  decide

theorem byteUndefinedF4 :
    Statement (.byteUndefinedF4) := by
  unfold Statement
  decide

theorem byteUndefinedF5 :
    Statement (.byteUndefinedF5) := by
  unfold Statement
  decide

theorem byteTuneRequest :
    Statement (.byteTuneRequest) := by
  unfold Statement
  decide

theorem byteSysexEndInSysex :
    Statement (.byteSysexEndInSysex) := by
  unfold Statement
  decide

theorem byteSysexEndSpurious :
    Statement (.byteSysexEndSpurious) := by
  unfold Statement
  decide

theorem byteTimingClock :
    Statement (.byteTimingClock) := by
  unfold Statement
  decide

theorem byteMeasureEnd :
    Statement (.byteMeasureEnd) := by
  unfold Statement
  decide

theorem byteStart :
    Statement (.byteStart) := by
  unfold Statement
  decide

theorem byteContinue :
    Statement (.byteContinue) := by
  unfold Statement
  decide

theorem byteStop :
    Statement (.byteStop) := by
  unfold Statement
  decide

theorem byteUndefinedFD :
    Statement (.byteUndefinedFD) := by
  unfold Statement
  decide

theorem byteActiveSensing :
    Statement (.byteActiveSensing) := by
  unfold Statement
  decide

theorem byteSystemReset :
    Statement (.byteSystemReset) := by
  unfold Statement
  decide

theorem byteDataIdle (v : U7) :
    Statement (.byteDataIdle v) := by
  unfold Statement
  revert v
  decide

theorem byteDataAwaitingData (v : U7) :
    Statement (.byteDataAwaitingData v) := by
  unfold Statement
  revert v
  decide

theorem byteDataInSysex (v : U7) :
    Statement (.byteDataInSysex v) := by
  unfold Statement
  revert v
  decide

theorem pktNoteOff (cable : U4) (ch : U4) (b1 : Byte) (b2 : Byte) :
    Statement (.pktNoteOff cable ch b1 b2) := by
  exact record cable 0x8 _ _ _ 0xF0 0x00 0x00 0x80 0x00 0x00 (voice_mask 0x8 ch) BitVec.and_zero BitVec.and_zero

theorem pktNoteOn (cable : U4) (ch : U4) (b1 : Byte) (b2 : Byte) :
    Statement (.pktNoteOn cable ch b1 b2) := by
  exact record cable 0x9 _ _ _ 0xF0 0x00 0x00 0x90 0x00 0x00 (voice_mask 0x9 ch) BitVec.and_zero BitVec.and_zero

theorem pktNotePressure (cable : U4) (ch : U4) (b1 : Byte) (b2 : Byte) :
    Statement (.pktNotePressure cable ch b1 b2) := by
  exact record cable 0xA _ _ _ 0xF0 0x00 0x00 0xA0 0x00 0x00 (voice_mask 0xA ch) BitVec.and_zero BitVec.and_zero

theorem pktControlChange (cable : U4) (ch : U4) (b1 : Byte) (b2 : Byte) :
    Statement (.pktControlChange cable ch b1 b2) := by
  exact record cable 0xB _ _ _ 0xF0 0x00 0x00 0xB0 0x00 0x00 (voice_mask 0xB ch) BitVec.and_zero BitVec.and_zero

theorem pktProgramChange (cable : U4) (ch : U4) (b1 : Byte) (b2 : Byte) :
    Statement (.pktProgramChange cable ch b1 b2) := by
  exact record cable 0xC _ _ _ 0xF0 0x00 0x00 0xC0 0x00 0x00 (voice_mask 0xC ch) BitVec.and_zero BitVec.and_zero

theorem pktChannelPressure (cable : U4) (ch : U4) (b1 : Byte) (b2 : Byte) :
    Statement (.pktChannelPressure cable ch b1 b2) := by
  exact record cable 0xD _ _ _ 0xF0 0x00 0x00 0xD0 0x00 0x00 (voice_mask 0xD ch) BitVec.and_zero BitVec.and_zero

theorem pktPitchBend (cable : U4) (ch : U4) (b1 : Byte) (b2 : Byte) :
    Statement (.pktPitchBend cable ch b1 b2) := by
  exact record cable 0xE _ _ _ 0xF0 0x00 0x00 0xE0 0x00 0x00 (voice_mask 0xE ch) BitVec.and_zero BitVec.and_zero

theorem pktTimeCodeQuarterFrame (cable : U4) (b1 : Byte) (b2 : Byte) :
    Statement (.pktTimeCodeQuarterFrame cable b1 b2) := by
  exact record cable 0x2 _ _ _ 0xFF 0x00 0x00 0xF1 0x00 0x00 rfl BitVec.and_zero BitVec.and_zero

theorem pktSongSelect (cable : U4) (b1 : Byte) (b2 : Byte) :
    Statement (.pktSongSelect cable b1 b2) := by
  exact record cable 0x2 _ _ _ 0xFF 0x00 0x00 0xF3 0x00 0x00 rfl BitVec.and_zero BitVec.and_zero

theorem pktSongPositionPointer (cable : U4) (b1 : Byte) (b2 : Byte) :
    Statement (.pktSongPositionPointer cable b1 b2) := by
  exact record cable 0x3 _ _ _ 0xFF 0x00 0x00 0xF2 0x00 0x00 rfl BitVec.and_zero BitVec.and_zero

theorem pktSysexBegin (cable : U4) (b1 : Byte) (b2 : Byte) :
    Statement (.pktSysexBegin cable b1 b2) := by
  exact record cable 0x4 _ _ _ 0xFF 0x00 0x00 0xF0 0x00 0x00 rfl BitVec.and_zero BitVec.and_zero

theorem pktSysexCont (cable : U4) (d0 : U7) (b1 : Byte) (b2 : Byte) :
    Statement (.pktSysexCont cable d0 b1 b2) := by
  exact record cable 0x4 _ _ _ 0x80 0x00 0x00 0x00 0x00 0x00 (data_mask d0) BitVec.and_zero BitVec.and_zero

theorem pktTuneRequest (cable : U4) (b1 : Byte) (b2 : Byte) :
    Statement (.pktTuneRequest cable b1 b2) := by
  exact record cable 0x5 _ _ _ 0xFF 0x00 0x00 0xF6 0x00 0x00 rfl BitVec.and_zero BitVec.and_zero

theorem pktSysexEnd (cable : U4) (b1 : Byte) (b2 : Byte) :
    Statement (.pktSysexEnd cable b1 b2) := by
  exact record cable 0x5 _ _ _ 0xFF 0x00 0x00 0xF7 0x00 0x00 rfl BitVec.and_zero BitVec.and_zero

theorem pktSysexEmpty (cable : U4) (b2 : Byte) :
    Statement (.pktSysexEmpty cable b2) := by
  exact record cable 0x6 _ _ _ 0xFF 0xFF 0x00 0xF0 0xF7 0x00 rfl rfl BitVec.and_zero

theorem pktSysexEnd1 (cable : U4) (d0 : U7) (b2 : Byte) :
    Statement (.pktSysexEnd1 cable d0 b2) := by
  exact record cable 0x6 _ _ _ 0x80 0xFF 0x00 0x00 0xF7 0x00 (data_mask d0) rfl BitVec.and_zero

theorem pktSysexSingleByte (cable : U4) (b1 : Byte) :
    Statement (.pktSysexSingleByte cable b1) := by
  exact record cable 0x7 _ _ _ 0xFF 0x00 0xFF 0xF0 0x00 0xF7 rfl BitVec.and_zero rfl

theorem pktSysexEnd2 (cable : U4) (d0 : U7) (b1 : Byte) :
    Statement (.pktSysexEnd2 cable d0 b1) := by
  exact record cable 0x7 _ _ _ 0x80 0x00 0xFF 0x00 0x00 0xF7 (data_mask d0) BitVec.and_zero rfl

theorem pktTimingClock (cable : U4) (b1 : Byte) (b2 : Byte) :
    Statement (.pktTimingClock cable b1 b2) := by
  exact record cable 0xF _ _ _ 0xFF 0x00 0x00 0xF8 0x00 0x00 rfl BitVec.and_zero BitVec.and_zero

theorem pktMeasureEnd (cable : U4) (b1 : Byte) (b2 : Byte) :
    Statement (.pktMeasureEnd cable b1 b2) := by
  exact record cable 0xF _ _ _ 0xFF 0x00 0x00 0xF9 0x00 0x00 rfl BitVec.and_zero BitVec.and_zero

theorem pktStart (cable : U4) (b1 : Byte) (b2 : Byte) :
    Statement (.pktStart cable b1 b2) := by
  exact record cable 0xF _ _ _ 0xFF 0x00 0x00 0xFA 0x00 0x00 rfl BitVec.and_zero BitVec.and_zero

theorem pktContinue (cable : U4) (b1 : Byte) (b2 : Byte) :
    Statement (.pktContinue cable b1 b2) := by
  exact record cable 0xF _ _ _ 0xFF 0x00 0x00 0xFB 0x00 0x00 rfl BitVec.and_zero BitVec.and_zero

theorem pktStop (cable : U4) (b1 : Byte) (b2 : Byte) :
    Statement (.pktStop cable b1 b2) := by
  exact record cable 0xF _ _ _ 0xFF 0x00 0x00 0xFC 0x00 0x00 rfl BitVec.and_zero BitVec.and_zero

theorem pktActiveSensing (cable : U4) (b1 : Byte) (b2 : Byte) :
    Statement (.pktActiveSensing cable b1 b2) := by
  exact record cable 0xF _ _ _ 0xFF 0x00 0x00 0xFE 0x00 0x00 rfl BitVec.and_zero BitVec.and_zero

theorem pktSystemReset (cable : U4) (b1 : Byte) (b2 : Byte) :
    Statement (.pktSystemReset cable b1 b2) := by
  exact record cable 0xF _ _ _ 0xFF 0x00 0x00 0xFF 0x00 0x00 rfl BitVec.and_zero BitVec.and_zero

end Sys2Proof.Laws.TableRow
end

