-- ==== Sys2Proof/Tests/Slice0.lean ====
section
/-! SUPPORT. Tests: the encodings of the spec written out and decoded; one vector of spec/95_test_vectors.md (named in
the comment) or one rule's example for each instruction; an ill-formed term for each check of WellFormed; and for each
statement with hypotheses a state and operands that meet them. -/

open Sys2Proof Sys2Proof.Machine Sys2Proof.Stated

namespace Sys2Proof.Tests

/-! ### Helpers -/

/-- The result an instruction gives its caller, where it completes. -/
def outputOf (i : Instr) (s : State) : Option OpResult :=
  match exec i s with
  | .next t => t.output
  | .fault _ => none
  | .refused _ => none

/-- A field of the state an instruction leaves, where it completes. -/
def after {α : Type} (f : State → α) (i : Instr) (s : State) : Option α :=
  match exec i s with
  | .next t => some (f t)
  | .fault _ => none
  | .refused _ => none

/-- The refusal of an instruction, where it is refused. -/
def refusalFrom (i : Instr) (s : State) : Option Refusal :=
  match exec i s with
  | .next _ => none
  | .fault _ => none
  | .refused r => some r

/-- The reset state with the parser in another form. -/
def parsing (pu : ParserState) : State := State.reset.setPu pu

/-- The reset state with bytes in the capture buffer. -/
def captured (buf : List Byte) : State := State.reset.setScBuf buf

/-- A packet from the four bytes the vectors write (R70). -/
def wire (w0 w1 w2 w3 : Byte) : Packet :=
  { cable := w0.extractLsb' 4 4, cin := w0.extractLsb' 0 4, b0 := w1, b1 := w2, b2 := w3 }

/-- `ok(some p)` of the parser and the generator. -/
def yields (w0 w1 w2 w3 : Byte) : Option OpResult := some (.ok (.optPacket (some (wire w0 w1 w2 w3))))

/-- `ok(m)` of DECODE. -/
def reads (m : Message) : Option OpResult := some (.ok (.message m))

/-- The token program of vector W9. -/
def programW9 : List Token := [.seq [0x42, 0x04], .val 0x40, .cap (.bytes 26)]

/-! ### Decoding: the words of the spec's encodings -/

/-- R117, codes 0x01 to 0x0A. -/
theorem test_decode_bounded :
    decode .idle (.command 0b00000001 [.nat 7, .nat 0x80]) = .ok (.cull .w7 0x80) ∧
    decode .idle (.command 0b00000010 [.nat 14, .nat 20000]) = .ok (.fill .w14 20000) ∧
    decode .idle (.command 0b00000011 [.nat 4, .nat 16]) = .ok (.fromDirect .w4 16) ∧
    decode .idle (.command 0b00000100 [.nat 6, .nat 63]) = .ok (.toWide .w6 63) ∧
    decode .idle (.command 0b00000101 [.nat 0x40, .nat 0]) = .ok (.u14FromPair 0x40 0) ∧
    decode .idle (.command 0b00000110 [.nat 8192]) = .ok (.u14ToPair 8192) ∧
    decode .idle (.command 0b00000111 [.nat 16]) = .ok (.channelFromExternal 16) ∧
    decode .idle (.command 0b00001000 [.nat 15]) = .ok (.channelToExternal 15) ∧
    decode .idle (.command 0b00001001 [.nat 16]) = .ok (.cableFromInt 16) ∧
    decode .idle (.command 0b00001010 [.nat 15]) = .ok (.cinFromInt 15) := by decide

/-- R117, codes 0x10 to 0x26. -/
theorem test_decode_packet_status :
    decode .idle (.command 0b00010000 [.nat 3, .nat 9, .bytes [0xF0, 1]]) = .ok (.packetMake 3 9 [0xF0, 1]) ∧
    decode .idle (.command 0b00010001 [.nat 0x19, .nat 0x91, .nat 0x3C, .nat 0x64]) =
      .ok (.packetFromWire 0x19 0x91 0x3C 0x64) ∧
    decode .idle (.command 0b00010010 [.packet 15 14 0xEF 0x7F 0x7F]) = .ok (.packetToWire (wire 0xFE 0xEF 0x7F 0x7F)) ∧
    decode .idle (.command 0b00010011 [.nat 5]) = .ok (.payloadLen 5) ∧
    decode .idle (.command 0b00010100 [.packet 0 6 5 0xF7 0]) = .ok (.packetPayload (wire 0x06 0x05 0xF7 0x00)) ∧
    decode .idle (.command 0b00100000 [.nat 0x7F]) = .ok (.isData 0x7F) ∧
    decode .idle (.command 0b00100001 [.nat 0xF7]) = .ok (.isStatus 0xF7) ∧
    decode .idle (.command 0b00100010 [.nat 0xEF]) = .ok (.isChannelVoice 0xEF) ∧
    decode .idle (.command 0b00100011 [.nat 0xF8]) = .ok (.isRealtime 0xF8) ∧
    decode .idle (.command 0b00100100 [.nat 0x93]) = .ok (.classify 0x93) ∧
    decode .idle (.command 0b00100101 [.status .pitchBend]) = .ok (.expectedLen .pitchBend) ∧
    decode .idle (.command 0b00100110 [.nat 0xB5]) = .ok (.channelOf 0xB5) := by decide

/-- R117, codes 0x30 to 0x62. -/
theorem test_decode_streams :
    decode .idle (.command 0b00110000 [.bytes [0x90, 0x3C, 0x64]]) = .ok (.rcPack [0x90, 0x3C, 0x64]) ∧
    decode .idle (.command 0b00110001 [.packet 0 12 0xC0 5 0]) = .ok (.rcSerialize (wire 0x0C 0xC0 0x05 0x00)) ∧
    decode .idle (.command 0b00110010 []) = .ok .rcReset ∧
    decode .idle (.command 0b01000000 [.nat 0xF0]) = .ok (.parseByte 0xF0) ∧
    decode .idle (.command 0b01000001 []) = .ok .parserReset ∧
    decode .idle (.command 0b01010000 [.nat 1, .message .pitchBend [9, 10000]]) =
      .ok (.encodeMessage 1 (.pitchBend 9 10000)) ∧
    decode .idle (.command 0b01010001 [.packet 0 3 0xF2 1 2]) = .ok (.decodePacket (wire 0x03 0xF2 0x01 0x02)) ∧
    decode .idle (.command 0b01100000 [.message .sysexCont [3, 4, 5]]) = .ok (.captureStep (.sysexCont 3 4 5)) ∧
    decode .idle (.command 0b01100001 []) = .ok .captureRead ∧
    decode .idle (.command 0b01100010 []) = .ok .captureClear := by decide

/-- R117, codes 0x70 to 0x75. -/
theorem test_decode_tokens :
    decode .idle (.command 0b01110000 [.program [.skip 2, .val 5]]) = .ok (.tokenFlatten [.skip 2, .val 5]) ∧
    decode .idle (.command 0b01110001 [.bytes [1, 2]]) = .ok (.tokenFrame [1, 2]) ∧
    decode .idle (.command 0b01110010 [.program [.cap (.bytes 3)], .nat 3]) = .ok (.genStart [.cap (.bytes 3)] 3) ∧
    decode .idle (.command 0b01110011 []) = .ok .genNext ∧
    decode .idle (.command 0b01110100 []) = .ok .genRestart ∧
    decode .idle (.command 0b01110101 [.bytes [9], .program [.seq [9]]]) = .ok (.matchProgram [9] [.seq [9]]) := by
  decide

/-- R101 and R245: the channel-voice status bytes, kind nibble above channel nibble. -/
theorem test_decode_voice_bytes :
    decode .idle (.serial 0b10000010) = .ok (.byteNoteOff 2) ∧
    decode .idle (.serial 0b10010011) = .ok (.byteNoteOn 3) ∧
    decode .idle (.serial 0b10101111) = .ok (.byteNotePressure 15) ∧
    decode .idle (.serial 0b10110101) = .ok (.byteControlChange 5) ∧
    decode .idle (.serial 0b11000000) = .ok (.byteProgramChange 0) ∧
    decode .idle (.serial 0b11011010) = .ok (.byteChannelPressure 10) ∧
    decode .idle (.serial 0b11101001) = .ok (.bytePitchBend 9) := by decide

/-- R102, the bytes 0xF0 to 0xF7, the last by the parser's form. -/
theorem test_decode_common_bytes :
    decode .idle (.serial 0b11110000) = .ok .byteSysexStart ∧
    decode .idle (.serial 0b11110001) = .ok .byteTimeCodeQuarterFrame ∧
    decode .idle (.serial 0b11110010) = .ok .byteSongPositionPointer ∧
    decode .idle (.serial 0b11110011) = .ok .byteSongSelect ∧
    decode .idle (.serial 0b11110100) = .ok .byteUndefinedF4 ∧
    decode .idle (.serial 0b11110101) = .ok .byteUndefinedF5 ∧
    decode .idle (.serial 0b11110110) = .ok .byteTuneRequest ∧
    decode .inSysex (.serial 0b11110111) = .ok .byteSysexEndInSysex ∧
    decode .idle (.serial 0b11110111) = .ok .byteSysexEndSpurious ∧
    decode .awaitingData (.serial 0b11110111) = .ok .byteSysexEndSpurious := by decide

/-- R102, the bytes 0xF8 to 0xFF, and the data bytes in the three forms of R240. -/
theorem test_decode_realtime_and_data_bytes :
    decode .idle (.serial 0b11111000) = .ok .byteTimingClock ∧
    decode .idle (.serial 0b11111001) = .ok .byteMeasureEnd ∧
    decode .idle (.serial 0b11111010) = .ok .byteStart ∧
    decode .idle (.serial 0b11111011) = .ok .byteContinue ∧
    decode .idle (.serial 0b11111100) = .ok .byteStop ∧
    decode .idle (.serial 0b11111101) = .ok .byteUndefinedFD ∧
    decode .idle (.serial 0b11111110) = .ok .byteActiveSensing ∧
    decode .inSysex (.serial 0b11111111) = .ok .byteSystemReset ∧
    decode .idle (.serial 0b01111111) = .ok (.byteDataIdle 0x7F) ∧
    decode .awaitingData (.serial 0b00111100) = .ok (.byteDataAwaitingData 0x3C) ∧
    decode .inSysex (.serial 0b00000001) = .ok (.byteDataInSysex 1) := by decide

/-- R112 and R70: the channel-voice and system-common patterns; the vectors' packets CD-1 to CD-14. -/
theorem test_decode_voice_records :
    decode .idle (.usb 0x08 0x82 0x40 0x00) = .ok (.pktNoteOff 0 2 0x40 0x00) ∧
    decode .idle (.usb 0x19 0x91 0x3C 0x64) = .ok (.pktNoteOn 1 1 0x3C 0x64) ∧
    decode .idle (.usb 0x1A 0xAF 0x7F 0x01) = .ok (.pktNotePressure 1 15 0x7F 0x01) ∧
    decode .idle (.usb 0x0B 0xB3 0x07 0x64) = .ok (.pktControlChange 0 3 0x07 0x64) ∧
    decode .idle (.usb 0x0C 0xC0 0x05 0x99) = .ok (.pktProgramChange 0 0 0x05 0x99) ∧
    decode .idle (.usb 0x0D 0xD4 0x30 0x00) = .ok (.pktChannelPressure 0 4 0x30 0x00) ∧
    decode .idle (.usb 0x0E 0xE9 0x10 0x4E) = .ok (.pktPitchBend 0 9 0x10 0x4E) ∧
    decode .idle (.usb 0x02 0xF1 0x25 0x00) = .ok (.pktTimeCodeQuarterFrame 0 0x25 0x00) ∧
    decode .idle (.usb 0x02 0xF3 0x03 0x00) = .ok (.pktSongSelect 0 0x03 0x00) ∧
    decode .idle (.usb 0x03 0xF2 0x01 0x02) = .ok (.pktSongPositionPointer 0 0x01 0x02) ∧
    decode .idle (.usb 0x05 0xF6 0x00 0x00) = .ok (.pktTuneRequest 0 0x00 0x00) := by decide

/-- R112 and R70: the sysex and real-time patterns; the vectors' packets CD-15 and CD-17. -/
theorem test_decode_sysex_records :
    decode .idle (.usb 0x04 0xF0 0x01 0x02) = .ok (.pktSysexBegin 0 0x01 0x02) ∧
    decode .idle (.usb 0x04 0x03 0x04 0x05) = .ok (.pktSysexCont 0 0x03 0x04 0x05) ∧
    decode .idle (.usb 0x05 0xF7 0x00 0x00) = .ok (.pktSysexEnd 0 0x00 0x00) ∧
    decode .idle (.usb 0x06 0x06 0xF7 0x00) = .ok (.pktSysexEnd1 0 0x06 0x00) ∧
    decode .idle (.usb 0x07 0x05 0x06 0xF7) = .ok (.pktSysexEnd2 0 0x05 0x06) ∧
    decode .idle (.usb 0x36 0xF0 0xF7 0x00) = .ok (.pktSysexEmpty 3 0x00) ∧
    decode .idle (.usb 0x07 0xF0 0x2A 0xF7) = .ok (.pktSysexSingleByte 0 0x2A) ∧
    decode .idle (.usb 0x0F 0xF8 0x00 0x00) = .ok (.pktTimingClock 0 0x00 0x00) ∧
    decode .idle (.usb 0x0F 0xF9 0x00 0x00) = .ok (.pktMeasureEnd 0 0x00 0x00) ∧
    decode .idle (.usb 0x2F 0xFA 0x00 0x00) = .ok (.pktStart 2 0x00 0x00) ∧
    decode .idle (.usb 0x0F 0xFB 0x00 0x00) = .ok (.pktContinue 0 0x00 0x00) ∧
    decode .idle (.usb 0xFF 0xFC 0x00 0x00) = .ok (.pktStop 15 0x00 0x00) ∧
    decode .idle (.usb 0x0F 0xFE 0x00 0x00) = .ok (.pktActiveSensing 0 0x00 0x00) ∧
    decode .idle (.usb 0x0F 0xFF 0x00 0x00) = .ok (.pktSystemReset 0 0x00 0x00) := by decide

/-- R119 and R409: an unassigned code and operands outside their types are refused by name; R309: a packet no pattern
matches is DECODE's. -/
theorem test_decode_refuses :
    decode .idle (.command 0x0B []) = .error (.unassignedCode 0x0B) ∧
    decode .idle (.command 0x27 [.nat 0]) = .error (.unassignedCode 0x27) ∧
    decode .idle (.command 0x20 [.nat 0x100]) = .error (.operandType 0x20) ∧
    decode .idle (.command 0x50 [.nat 16, .message .timingClock []]) = .error (.operandType 0x50) ∧
    decode .idle (.command 0x60 [.message .songSelect [0x80]]) = .error (.operandType 0x60) ∧
    decode .idle (.command 0x01 [.nat 8, .nat 0]) = .error (.operandType 0x01) ∧
    decode .idle (.usb 0x0F 0xFD 0x00 0x00) = .ok (.decodePacket (wire 0x0F 0xFD 0x00 0x00)) ∧
    decode .idle (.usb 0x09 0x80 0x3C 0x64) = .ok (.decodePacket (wire 0x09 0x80 0x3C 0x64)) := by decide

/-! ### WellFormed refuses -/

theorem test_wellformed_refuses :
    (Instr.toWide .w4 16).wellFormed = false ∧ (Instr.toWide .w4 15).wellFormed = true ∧
    (Instr.packetMake 0 0 [1, 2, 3, 4]).wellFormed = false ∧ (Instr.packetMake 0 0 [1, 2, 3]).wellFormed = true ∧
    (Instr.rcPack []).wellFormed = false ∧ (Instr.rcPack [1, 2, 3, 4]).wellFormed = false ∧
    (Instr.rcPack [1]).wellFormed = true ∧
    (Instr.tokenFlatten [.val 0x80]).wellFormed = false ∧
    (Instr.genStart [.seq [1, 0x80]] 0).wellFormed = false ∧
    (Instr.matchProgram [] [.cap (.other 0)]).wellFormed = false ∧
    (Instr.matchProgram [0x80] [.cap (.bytes 1)]).wellFormed = true ∧
    (Instr.tokenFrame [1, 0x80]).wellFormed = false := by decide

theorem test_ill_formed_is_refused :
    refusalFrom (.toWide .w4 16) State.reset = some (.valueNotBounded .w4 16) ∧
    refusalFrom (.packetMake 0 0 [1, 2, 3, 4]) State.reset = some .packetTooLong ∧
    refusalFrom (.rcPack []) State.reset = some .payloadEmpty ∧
    refusalFrom (.rcPack [1, 2, 3, 4]) State.reset = some .payloadTooLong ∧
    refusalFrom (.tokenFlatten [.val 0x80]) State.reset = some .illFormedProgram ∧
    refusalFrom (.genStart [.seq [1, 0x80]] 0) State.reset = some .illFormedProgram ∧
    refusalFrom (.matchProgram [] [.cap (.other 0)]) State.reset = some .illFormedProgram ∧
    refusalFrom (.tokenFrame [1, 0x80]) State.reset = some .frameByte := by decide

/-! ### Bounded integers -/

/-- BI-1, BI-3, BI-5. -/
theorem test_cull : outputOf (.cull .w7 0x180) State.reset = some (.ok (.nat 0)) ∧
    outputOf (.cull .w4 0x1F) State.reset = some (.ok (.nat 15)) ∧
    outputOf (.cull .w14 0x7FFF) State.reset = some (.ok (.nat 16383)) := by decide

/-- BI-6, BI-7. -/
theorem test_fill : outputOf (.fill .w7 127) State.reset = some (.ok (.nat 127)) ∧
    outputOf (.fill .w7 128) State.reset = some (.ok (.nat 127)) ∧
    outputOf (.fill .w6 0xFFFFFFFF) State.reset = some (.ok (.nat 63)) := by decide

/-- BI-9, BI-10. -/
theorem test_fromDirect : outputOf (.fromDirect .w4 15) State.reset = some (.ok (.nat 15)) ∧
    outputOf (.fromDirect .w4 16) State.reset = some (.err (.invalidValue .w4 [16])) ∧
    outputOf (.fromDirect .w6 64) State.reset = some (.err (.invalidValue .w6 [64])) := by decide

/-- BI-11. -/
theorem test_toWide : outputOf (.toWide .w14 8192) State.reset = some (.ok (.nat 8192)) := by decide

/-- BI-12 to BI-14. -/
theorem test_u14FromPair : outputOf (.u14FromPair 0x01 0x02) State.reset = some (.ok (.nat 130)) ∧
    outputOf (.u14FromPair 0x7F 0x7F) State.reset = some (.ok (.nat 16383)) ∧
    outputOf (.u14FromPair 0x00 0x80) State.reset = some (.err (.invalidValue .w14 [0, 0x80])) := by decide

/-- BI-15. -/
theorem test_u14ToPair : outputOf (.u14ToPair 10000) State.reset = some (.ok (.pair 0x4E 0x10)) ∧
    outputOf (.u14ToPair 130) State.reset = some (.ok (.pair 0x01 0x02)) := by decide

/-- BI-16, BI-17. -/
theorem test_channelFromExternal : outputOf (.channelFromExternal 16) State.reset = some (.ok (.nat 15)) ∧
    outputOf (.channelFromExternal 0) State.reset = some (.err (.invalidChannel 0)) ∧
    outputOf (.channelFromExternal 17) State.reset = some (.err (.invalidChannel 17)) := by decide

/-- BI-18. -/
theorem test_channelToExternal : outputOf (.channelToExternal 15) State.reset = some (.ok (.nat 16)) := by decide

/-- BI-19. -/
theorem test_cableFromInt : outputOf (.cableFromInt 15) State.reset = some (.ok (.nat 15)) ∧
    outputOf (.cableFromInt 16) State.reset = some (.err (.invalidCable 16)) := by decide

/-- BI-20. -/
theorem test_cinFromInt : outputOf (.cinFromInt 15) State.reset = some (.ok (.nat 15)) ∧
    outputOf (.cinFromInt 16) State.reset = some (.err (.invalidCode 16)) := by decide

/-! ### Packets -/

/-- PK-1, PK-2. -/
theorem test_packetMake :
    outputOf (.packetMake 0 0xF [0xF8]) State.reset = some (.ok (.packet (wire 0x0F 0xF8 0x00 0x00))) ∧
    outputOf (.packetMake 3 0x9 []) State.reset = some (.ok (.packet (wire 0x39 0x00 0x00 0x00))) := by decide

/-- PK-4. -/
theorem test_packetFromWire : outputOf (.packetFromWire 0x19 0x91 0x3C 0x64) State.reset =
    some (.ok (.packet { cable := 1, cin := 9, b0 := 0x91, b1 := 0x3C, b2 := 0x64 })) := by decide

/-- PK-6. -/
theorem test_packetToWire :
    outputOf (.packetToWire { cable := 15, cin := 0xE, b0 := 0xEF, b1 := 0x7F, b2 := 0x7F }) State.reset =
      some (.ok (.bytes [0xFE, 0xEF, 0x7F, 0x7F])) := by decide

/-- PK-7. -/
theorem test_payloadLen : outputOf (.payloadLen 0x1) State.reset = some (.ok (.optNat none)) ∧
    outputOf (.payloadLen 0x5) State.reset = some (.ok (.optNat (some 1))) ∧
    outputOf (.payloadLen 0xF) State.reset = some (.ok (.optNat (some 1))) := by decide

/-- PK-8, PK-9, PK-10. -/
theorem test_packetPayload :
    outputOf (.packetPayload (wire 0x06 0x05 0xF7 0x00)) State.reset = some (.ok (.bytes [0x05, 0xF7])) ∧
    outputOf (.packetPayload (wire 0x05 0x90 0x3C 0x64)) State.reset = some (.ok (.bytes [0x90])) ∧
    outputOf (.packetPayload (wire 0x01 0xF8 0x00 0x00)) State.reset =
      some (.err (.badPacket (wire 0x01 0xF8 0x00 0x00))) := by decide

/-! ### Status taxonomy -/

/-- ST-1. -/
theorem test_isData : outputOf (.isData 0x7F) State.reset = some (.ok (.bool true)) ∧
    outputOf (.isData 0x80) State.reset = some (.ok (.bool false)) := by decide

/-- ST-1. -/
theorem test_isStatus : outputOf (.isStatus 0xF7) State.reset = some (.ok (.bool true)) ∧
    outputOf (.isStatus 0x00) State.reset = some (.ok (.bool false)) := by decide

/-- ST-2. -/
theorem test_isChannelVoice : outputOf (.isChannelVoice 0xEF) State.reset = some (.ok (.bool true)) ∧
    outputOf (.isChannelVoice 0xF0) State.reset = some (.ok (.bool false)) := by decide

/-- ST-3. -/
theorem test_isRealtime : outputOf (.isRealtime 0xF7) State.reset = some (.ok (.bool false)) ∧
    outputOf (.isRealtime 0xFD) State.reset = some (.ok (.bool true)) := by decide

/-- ST-4, ST-6, W2. -/
theorem test_classify : outputOf (.classify 0x8F) State.reset = some (.ok (.status .noteOff)) ∧
    outputOf (.classify 0xF9) State.reset = some (.ok (.status .measureEnd)) ∧
    outputOf (.classify 0xF7) State.reset = some (.err (.invalidStatus 0xF7)) := by decide

/-- ST-8. -/
theorem test_expectedLen : outputOf (.expectedLen .programChange) State.reset = some (.ok (.nat 2)) ∧
    outputOf (.expectedLen .sysexStart) State.reset = some (.ok (.nat 3)) ∧
    outputOf (.expectedLen .undefinedFD) State.reset = some (.ok (.nat 1)) := by decide

/-- ST-9. -/
theorem test_channelOf : outputOf (.channelOf 0xB5) State.reset = some (.ok (.optNat (some 5))) ∧
    outputOf (.channelOf 0xF8) State.reset = some (.ok (.optNat none)) := by decide

/-! ### Compressor -/

/-- RC-2, RC-3. -/
theorem test_rcPack_voice :
    outputOf (.rcPack [0x90, 0x3E, 0x64]) (State.reset.setRcLast (some 0x90)) = some (.ok (.bytes [0x3E, 0x64])) ∧
    outputOf (.rcPack [0x91, 0x3C, 0x64]) (State.reset.setRcLast (some 0x90)) = some (.ok (.bytes [0x91, 0x3C, 0x64])) ∧
    after State.rcLast (.rcPack [0x91, 0x3C, 0x64]) (State.reset.setRcLast (some 0x90)) = some (some 0x91) := by decide

/-- RC-4, RC-7. -/
theorem test_rcPack_other :
    outputOf (.rcPack [0xF8]) (State.reset.setRcLast (some 0x91)) = some (.ok (.bytes [0xF8])) ∧
    after State.rcLast (.rcPack [0xF8]) (State.reset.setRcLast (some 0x91)) = some none ∧
    after State.rcLast (.rcPack [0x03, 0x04, 0x05]) (State.reset.setRcLast (some 0x91)) = some none := by decide

/-- RC-8, RC-10. -/
theorem test_rcSerialize :
    outputOf (.rcSerialize (wire 0x0C 0xC0 0x05 0x00)) State.reset = some (.ok (.bytes [0xC0, 0x05])) ∧
    outputOf (.rcSerialize (wire 0x00 0xC0 0x06 0x00)) (State.reset.setRcLast (some 0xC0)) =
      some (.err (.badPacket (wire 0x00 0xC0 0x06 0x00))) ∧
    after State.rcLast (.rcSerialize (wire 0x00 0xC0 0x06 0x00)) (State.reset.setRcLast (some 0xC0)) =
      some (some 0xC0) := by decide

/-- RC-12. -/
theorem test_rcReset : outputOf .rcReset (State.reset.setRcLast (some 0xC0)) = some (.ok .unit) ∧
    after State.rcLast .rcReset (State.reset.setRcLast (some 0xC0)) = some none := by decide

/-! ### Parser -/

/-- PU-1's last byte (C0 05 06) and PU-4's second (F1 25, running status off). -/
theorem test_parseByte_data :
    outputOf (.parseByte 0x06) (parsing (.awaitingData 0xC0 [])) = yields 0x0C 0xC0 0x06 0x00 ∧
    after State.pu (.parseByte 0x06) (parsing (.awaitingData 0xC0 [])) = some (.awaitingData 0xC0 []) ∧
    after State.pu (.parseByte 0x25)
      { parsing (.awaitingData 0xF1 []) with
        params := { Params.default with sysCommonRunningStatus := false } } = some .idle := by decide

/-- PU-11's third and last bytes. -/
theorem test_parseByte_sysex :
    outputOf (.parseByte 0x02) (parsing (.inSysex [0xF0, 0x01])) = yields 0x04 0xF0 0x01 0x02 ∧
    outputOf (.parseByte 0xF7) (parsing (.inSysex [0x06])) = yields 0x06 0x06 0xF7 0x00 := by decide

/-- PU-21. -/
theorem test_parserReset : outputOf .parserReset (parsing (.inSysex [1])) = some (.ok .unit) ∧
    after State.pu .parserReset (parsing (.inSysex [1])) = some .idle := by decide

/-- R245 with W5, PU-15, PU-1, PU-18: a channel-voice status byte opens its message, whatever the parser held. -/
theorem test_byte_voice :
    after State.pu (.byteNoteOff 0) (parsing (.awaitingData 0x90 [0x3C])) = some (.awaitingData 0x80 []) ∧
    after State.pu (.byteNoteOn 3) State.reset = some (.awaitingData 0x93 []) ∧
    after State.pu (.byteNotePressure 15) State.reset = some (.awaitingData 0xAF []) ∧
    after State.pu (.byteControlChange 5) State.reset = some (.awaitingData 0xB5 []) ∧
    after State.pu (.byteProgramChange 0) State.reset = some (.awaitingData 0xC0 []) ∧
    after State.pu (.byteChannelPressure 4) State.reset = some (.awaitingData 0xD4 []) ∧
    after State.pu (.bytePitchBend 9) (parsing (.inSysex [1])) = some (.awaitingData 0xE9 []) := by decide

/-- PU-8, PU-22, PU-3, PU-5, PU-2, PU-16. -/
theorem test_byte_common :
    after State.pu .byteSysexStart (parsing (.inSysex [0xF0, 1])) = some (.inSysex [0xF0]) ∧
    after State.pu .byteTimeCodeQuarterFrame State.reset = some (.awaitingData 0xF1 []) ∧
    after State.pu .byteSongPositionPointer State.reset = some (.awaitingData 0xF2 []) ∧
    after State.pu .byteSongSelect State.reset = some (.awaitingData 0xF3 []) ∧
    outputOf .byteUndefinedF4 State.reset = yields 0x05 0xF4 0x00 0x00 ∧
    outputOf .byteUndefinedF5 State.reset = yields 0x05 0xF5 0x00 0x00 ∧
    outputOf .byteTuneRequest (parsing (.inSysex [1])) = yields 0x05 0xF6 0x00 0x00 ∧
    after State.pu .byteTuneRequest (parsing (.inSysex [1])) = some .idle := by decide

/-- PU-9, PU-10, PU-12 and PU-17. -/
theorem test_byte_sysexEnd :
    outputOf .byteSysexEndInSysex (parsing (.inSysex [0xF0, 0x2A])) = yields 0x07 0xF0 0x2A 0xF7 ∧
    outputOf .byteSysexEndInSysex (parsing (.inSysex [])) = yields 0x05 0xF7 0x00 0x00 ∧
    outputOf .byteSysexEndSpurious (parsing (.awaitingData 0x90 [0x3C])) =
      some (.err (.spuriousSysexEnd (some 0xF7))) ∧
    after State.pu .byteSysexEndSpurious (parsing (.awaitingData 0x90 [0x3C])) = some .idle := by decide

/-- R241, PU-13, PU-16, PU-20. -/
theorem test_byte_realtime :
    outputOf .byteTimingClock (parsing (.inSysex [0xF0, 1])) = yields 0x0F 0xF8 0x00 0x00 ∧
    outputOf .byteMeasureEnd State.reset = yields 0x0F 0xF9 0x00 0x00 ∧
    outputOf .byteStart State.reset = yields 0x0F 0xFA 0x00 0x00 ∧
    outputOf .byteContinue State.reset = yields 0x0F 0xFB 0x00 0x00 ∧
    outputOf .byteStop State.reset = yields 0x0F 0xFC 0x00 0x00 ∧
    outputOf .byteUndefinedFD State.reset = yields 0x0F 0xFD 0x00 0x00 ∧
    outputOf .byteActiveSensing State.reset = yields 0x0F 0xFE 0x00 0x00 ∧
    outputOf .byteSystemReset (parsing (.awaitingData 0x90 [0x3C])) = yields 0x0F 0xFF 0x00 0x00 ∧
    after State.pu .byteSystemReset (parsing (.awaitingData 0x90 [0x3C])) = some (.awaitingData 0x90 [0x3C]) := by
  decide

/-- PU-6, W5, PU-11. -/
theorem test_byte_data :
    outputOf (.byteDataIdle 0x3C) State.reset = some (.err (.invalidStatus 0x3C)) ∧
    outputOf (.byteDataAwaitingData 0x64) (parsing (.awaitingData 0x90 [0x3C])) = yields 0x09 0x90 0x3C 0x64 ∧
    outputOf (.byteDataInSysex 0x05) (parsing (.inSysex [0x03, 0x04])) = yields 0x04 0x03 0x04 0x05 ∧
    after State.pu (.byteDataInSysex 0x05) (parsing (.inSysex [0x03, 0x04])) = some (.inSysex []) := by decide

/-! ### Codec -/

/-- CD-3, CD-7, CD-14. -/
theorem test_encodeMessage :
    outputOf (.encodeMessage 1 (.notePressure 15 0x7F 0x01)) State.reset =
      some (.ok (.packet (wire 0x1A 0xAF 0x7F 0x01))) ∧
    outputOf (.encodeMessage 0 (.pitchBend 9 10000)) State.reset = some (.ok (.packet (wire 0x0E 0xE9 0x10 0x4E))) ∧
    outputOf (.encodeMessage 0 (.songPositionPointer 0x10 0x20)) State.reset =
      some (.ok (.packet (wire 0x03 0xF2 0x10 0x20))) := by decide

/-- CD-17. -/
theorem test_encodeMessage_sysex :
    outputOf (.encodeMessage 0 (.sysexEnd2 5 6)) State.reset = some (.ok (.packet (wire 0x07 0x05 0x06 0xF7))) ∧
    outputOf (.encodeMessage 0 .sysexEmpty) State.reset = some (.ok (.packet (wire 0x06 0xF0 0xF7 0x00))) := by decide

/-- CD-9, CD-18, CD-20. -/
theorem test_decodePacket :
    outputOf (.decodePacket (wire 0x09 0x80 0x3C 0x64)) State.reset =
      some (.err (.badPacket (wire 0x09 0x80 0x3C 0x64))) ∧
    outputOf (.decodePacket (wire 0x07 0xF0 0x2A 0x00)) State.reset =
      some (.err (.badPacket (wire 0x07 0xF0 0x2A 0x00))) ∧
    outputOf (.decodePacket (wire 0x19 0x91 0x3C 0x64)) State.reset = reads (.noteOn 1 0x3C 0x64) := by decide

/-- CD-8, CD-10: the data policy. -/
theorem test_decodePacket_policy :
    outputOf (.decodePacket (wire 0x09 0x90 0x80 0x64)) State.reset =
      some (.err (.badPacket (wire 0x09 0x90 0x80 0x64))) ∧
    outputOf (.decodePacket (wire 0x09 0x90 0x80 0x64))
      { State.reset with params := { Params.default with decodeDataPolicy := .cull } } = reads (.noteOn 0 0 0x64) ∧
    outputOf (.decodePacket (wire 0x0E 0xE0 0x80 0x00))
      { State.reset with params := { Params.default with decodeDataPolicy := .cull } } =
        some (.err (.badPacket (wire 0x0E 0xE0 0x80 0x00))) := by decide

/-- CD-2, CD-1, CD-3, CD-4, CD-5, CD-6, CD-7 read back. -/
theorem test_pkt_voice :
    outputOf (.pktNoteOff 0 2 0x40 0x00) State.reset = reads (.noteOff 2 0x40 0) ∧
    outputOf (.pktNoteOn 0 0 0x3C 0x64) State.reset = reads (.noteOn 0 0x3C 0x64) ∧
    outputOf (.pktNotePressure 1 15 0x7F 0x01) State.reset = reads (.notePressure 15 0x7F 0x01) ∧
    outputOf (.pktControlChange 0 3 0x07 0x64) State.reset = reads (.controlChange 3 0x07 0x64) ∧
    outputOf (.pktProgramChange 0 0 0x05 0x99) State.reset = reads (.programChange 0 5) ∧
    outputOf (.pktChannelPressure 0 4 0x30 0x00) State.reset = reads (.channelPressure 4 0x30) ∧
    outputOf (.pktPitchBend 0 9 0x10 0x4E) State.reset = reads (.pitchBend 9 10000) := by decide

/-- CD-11, CD-12, CD-14, CD-13 and CD-15 read back. -/
theorem test_pkt_system :
    outputOf (.pktTimeCodeQuarterFrame 0 0x25 0x00) State.reset = reads (.timeCodeQuarterFrame 0x25) ∧
    outputOf (.pktSongSelect 0 0x03 0x00) State.reset = reads (.songSelect 3) ∧
    outputOf (.pktSongPositionPointer 0 0x01 0x02) State.reset = reads (.songPositionPointer 1 2) ∧
    outputOf (.pktTuneRequest 0 0x00 0x00) State.reset = reads .tuneRequest ∧
    outputOf (.pktTimingClock 0 0x00 0x00) State.reset = reads .timingClock ∧
    outputOf (.pktMeasureEnd 0 0x00 0x00) State.reset = reads .measureEnd ∧
    outputOf (.pktStart 2 0x00 0x00) State.reset = reads .start ∧
    outputOf (.pktContinue 0 0x00 0x00) State.reset = reads .continue_ ∧
    outputOf (.pktStop 15 0x00 0x00) State.reset = reads .stop ∧
    outputOf (.pktActiveSensing 0 0x00 0x00) State.reset = reads .activeSensing ∧
    outputOf (.pktSystemReset 0 0x00 0x00) State.reset = reads .systemReset := by decide

/-- CD-17 and CD-22 read back. -/
theorem test_pkt_sysex :
    outputOf (.pktSysexBegin 0 0x01 0x02) State.reset = reads (.sysexBegin 1 2) ∧
    outputOf (.pktSysexCont 0 0x03 0x04 0x05) State.reset = reads (.sysexCont 3 4 5) ∧
    outputOf (.pktSysexEnd 0 0x00 0x00) State.reset = reads .sysexEnd ∧
    outputOf (.pktSysexEmpty 0 0x00) State.reset = reads .sysexEmpty ∧
    outputOf (.pktSysexEnd1 0 0x06 0x00) State.reset = reads (.sysexEnd1 6) ∧
    outputOf (.pktSysexSingleByte 0 0x2A) State.reset = reads (.sysexSingleByte 0x2A) ∧
    outputOf (.pktSysexEnd2 0 0x05 0x06) State.reset = reads (.sysexEnd2 5 6) := by decide

/-! ### Capture -/

/-- SC-5, SC-8, SC-13, SC-7. -/
theorem test_captureStep :
    after State.scBuf (.captureStep (.sysexBegin 7 8)) (captured [1, 2, 3, 4, 5]) = some [7, 8] ∧
    outputOf (.captureStep (.sysexEnd2 3 4)) (captured [1, 2]) = some (.ok (.capture (.captured 4))) ∧
    outputOf (.captureStep (.sysexCont 1 2 3)) State.reset = some (.err .spuriousSysexContinuation) ∧
    after State.scBuf (.captureStep .timingClock) (captured [1, 2]) = some [] := by decide

/-- SC-9, the second step, and SC-12 with capacity 0. -/
theorem test_captureStep_overflow :
    outputOf (.captureStep (.sysexCont 3 4 5))
      { captured [1, 2] with params := { Params.default with captureCapacity := 4 } } = some (.err .bufferOverflow) ∧
    after State.scBuf (.captureStep (.sysexCont 3 4 5))
      { captured [1, 2] with params := { Params.default with captureCapacity := 4 } } = some [] ∧
    outputOf (.captureStep (.sysexSingleByte 1))
      { State.reset with params := { Params.default with captureCapacity := 0 } } = some (.err .bufferOverflow) := by
  decide

/-- SC-15. -/
theorem test_captureRead : outputOf .captureRead (captured [1, 2, 3]) = some (.ok (.bytes [1, 2, 3])) ∧
    after State.scBuf .captureRead (captured [1, 2, 3]) = some [1, 2, 3] := by decide

/-- SC-15. -/
theorem test_captureClear : after State.scBuf .captureClear (captured [1, 2, 3]) = some [] := by decide

/-! ### Tokens -/

/-- TK-1. -/
theorem test_tokenFlatten :
    outputOf (.tokenFlatten [.skip 2, .val 5]) State.reset = some (.ok (.bytes [0, 0, 5])) ∧
    outputOf (.tokenFlatten [.seq []]) State.reset = some (.ok (.bytes [])) := by decide

/-- TK-2, TK-3. -/
theorem test_tokenFrame :
    outputOf (.tokenFrame [0x7E]) State.reset = some (.ok (.messages [.sysexSingleByte 0x7E])) ∧
    outputOf (.tokenFrame [1, 2, 3, 4]) State.reset = some (.ok (.messages [.sysexBegin 1 2, .sysexEnd2 3 4])) ∧
    outputOf (.tokenFrame [1, 2, 3, 4, 5]) State.reset =
      some (.ok (.messages [.sysexBegin 1 2, .sysexCont 3 4 5, .sysexEnd])) := by decide

/-- Program P3, step 2. -/
theorem test_genStart :
    after State.tgMsgs (.genStart [.seq [0x7E, 0x00], .val 0x06, .val 0x01] 0) State.reset =
      some [.sysexBegin 0x7E 0x00, .sysexEnd2 0x06 0x01] ∧
    after State.tgCable (.genStart [] 3) State.reset = some 3 := by decide

/-- TK-7, TK-8. -/
theorem test_genNext :
    outputOf .genNext ((State.reset.setTgMsgs [.sysexEmpty]).setTgCable 3) = yields 0x36 0xF0 0xF7 0x00 ∧
    after State.tgK .genNext ((State.reset.setTgMsgs [.sysexEmpty]).setTgCable 3) = some 1 ∧
    outputOf .genNext State.reset = some (.ok (.optPacket none)) := by decide

/-- TK-6. -/
theorem test_genRestart : after State.tgK .genRestart ((State.reset.setTgMsgs [.sysexEmpty]).setTgK 1) = some 0 := by
  decide

/-- W9, TK-9: the program against its own bytes, and against them with a byte more. -/
theorem test_matchProgram :
    outputOf (.matchProgram ([0x42, 0x04, 0x40] ++ List.replicate 26 0) programW9) State.reset =
      some (.ok (.records [{ offset := 3, width := 26 }])) ∧
    outputOf (.matchProgram ([0x42, 0x04, 0x40] ++ List.replicate 27 0) programW9) State.reset =
      some (.err .noMatch) := by decide

/-- TK-13, TK-15, TK-16. -/
theorem test_matchProgram_tokens :
    outputOf (.matchProgram [1, 2] [.skip 3]) State.reset = some (.err .noMatch) ∧
    outputOf (.matchProgram [0x09, 0x80] [.val 9, .cap (.bytes 1)]) State.reset =
      some (.ok (.records [{ offset := 1, width := 1 }])) ∧
    outputOf (.matchProgram [1, 2, 3] [.cap (.bytes 0), .seq [1, 2, 3]]) State.reset =
      some (.ok (.records [{ offset := 0, width := 0 }])) := by decide

/-! ### Steps and codes -/

/-- The codes of R400. -/
theorem test_errorCode :
    errorCode (.invalidStatus 0) = 0x01 ∧ errorCode (.badPacket (wire 0 0 0 0)) = 0x02 ∧
    errorCode (.invalidChannel 0) = 0x03 ∧ errorCode (.invalidValue .w4 []) = 0x04 ∧ errorCode (.invalidCode 16) = 0x05 ∧
    errorCode (.invalidCable 16) = 0x06 ∧ errorCode .sysexOutOfBounds = 0x07 ∧ errorCode .bufferOverflow = 0x08 ∧
    errorCode .spuriousSysexContinuation = 0x09 ∧ errorCode (.spuriousSysexEnd none) = 0x0A ∧
    errorCode .noMatch = 0x0B := by decide

/-- A placed table word is the next step's instruction. -/
theorem test_withFetchWord :
    step (State.reset.withFetchWord 8 0x93) = exec (.byteNoteOn 3) State.reset ∧
    step (State.reset.withFetchWord 32 0x0DD43000) = exec (.pktChannelPressure 0 4 0x30 0) State.reset ∧
    step (State.reset.withFetchWord 8 0x41) = exec .parserReset State.reset := ⟨rfl, rfl, rfl⟩

/-! ### Witnesses: states and operands that meet the hypotheses of the statements -/

/-- A program with every token form, well-formed. -/
def everyToken : List Token := [.seq [0x42, 0x04], .val 0x40, .skip 1, .cap (.bytes 3)]

/-- The reset state with one event pending. -/
def issuing (e : Event) : State := State.reset.setPending [e]

theorem witness_ToWideIsLossless :
    (0 ≤ 2 ^ Width.w7.bits - 1 ∧ 127 ≤ 2 ^ Width.w7.bits - 1) ∧ 128 > 2 ^ Width.w7.bits - 1 := by decide

theorem witness_ConversionsUndoEachOther : 0 ≤ 2 ^ Width.w4.bits - 1 ∧ 15 ≤ 2 ^ Width.w4.bits - 1 := by decide

theorem witness_PacketMakePadsWithZeros :
    ([] : List Byte).length ≤ 3 ∧ ([1, 2, 3] : List Byte).length ≤ 3 ∧ ([1, 2, 3, 4] : List Byte).length > 3 := by decide

theorem witness_StatusTableGivesKindsAndLengths :
    ((0x7F : Byte).toNat < 0x80 ∨ (0x7F : Byte) = 0xF7) ∧ ((0xF7 : Byte).toNat < 0x80 ∨ (0xF7 : Byte) = 0xF7) ∧
    (0x80 ≤ (0x80 : Byte).toNat ∧ (0x80 : Byte).toNat ≤ 0xEF ∧
      voiceKinds[((0x80 : Byte).toNat >>> 4) - 8]? = some .noteOff) ∧
    (0x80 ≤ (0xEF : Byte).toNat ∧ (0xEF : Byte).toNat ≤ 0xEF ∧
      voiceKinds[((0xEF : Byte).toNat >>> 4) - 8]? = some .pitchBend) ∧
    (0xF0 ≤ (0xF0 : Byte).toNat ∧ systemKinds[(0xF0 : Byte).toNat - 0xF0]? = some (some .sysexStart)) ∧
    (0xF0 ≤ (0xFF : Byte).toNat ∧ systemKinds[(0xFF : Byte).toNat - 0xF0]? = some (some .systemReset)) := by decide

theorem witness_PackElidesARepeatedVoiceStatus :
    ([] : List Byte).length ≤ 2 ∧ ([0x3C, 0x64] : List Byte).length ≤ 2 := by decide

theorem witness_SerializePacksTheMeaningfulBytes :
    payloadLens.getD (wire 0x01 0xF8 0 0).cin.toNat none = none ∧
    payloadLens.getD (wire 0x02 0xF3 3 0).cin.toNat none = some 2 ∧
    payloadLens.getD (wire 0x0F 0xF8 0 0).cin.toNat none = some 1 := by decide

theorem witness_RealtimeBytesPassThrough : 0xF8 ≤ (0xF8 : Byte).toNat ∧ 0xF8 ≤ (0xFF : Byte).toNat := by decide

theorem witness_SysexEndFlushesTheRun :
    (parsing (.inSysex [])).pu = .inSysex [] ∧ (parsing (.inSysex [0xF0])).pu = .inSysex [0xF0] ∧
    (parsing (.inSysex [0xF0, 1])).pu = .inSysex [0xF0, 1] := by decide

theorem witness_BytesOutOfPlaceFail :
    State.reset.pu = .idle ∧ ∃ status collected, (parsing (.awaitingData 0x90 [0x3C])).pu = .awaitingData status collected :=
  ⟨rfl, _, _, rfl⟩

theorem witness_StatusBytesStartAMessage :
    (0x80 ≤ (0x80 : Byte).toNat ∧ (0x80 : Byte).toNat ≤ 0xEF) ∧ (0x80 ≤ (0xEF : Byte).toNat ∧ (0xEF : Byte).toNat ≤ 0xEF) ∧
    takesData 0x80 ∧ takesData 0xEF ∧ takesData 0xF1 ∧ takesData 0xF3 :=
  ⟨by decide, by decide, .inl (by unfold isVoice; decide), .inl (by unfold isVoice; decide), .inr (.inl rfl),
    .inr (.inr (.inr rfl))⟩

theorem witness_DataBytesCompleteTheMessage :
    ((parsing (.awaitingData 0xEF [0])).pu = .awaitingData 0xEF [0] ∧ takesData 0xEF ∧
      ([0] : List Byte).length + 1 = lengthOf 0xEF - 1) ∧
    ((parsing (.awaitingData 0xF3 [])).pu = .awaitingData 0xF3 [] ∧ takesData 0xF3 ∧
      ([] : List Byte).length + 1 = lengthOf 0xF3 - 1) ∧
    ((parsing (.awaitingData 0x80 [])).pu = .awaitingData 0x80 [] ∧ takesData 0x80 ∧
      ([] : List Byte).length + 1 ≠ lengthOf 0x80 - 1) :=
  ⟨⟨rfl, .inl (by unfold isVoice; decide), by decide⟩, ⟨rfl, .inr (.inr (.inr rfl)), by decide⟩,
    ⟨rfl, .inl (by unfold isVoice; decide), by decide⟩⟩

theorem witness_EveryThirdSysexByteFlushes :
    ((parsing (.inSysex [])).pu = .inSysex [] ∧ ([] : List Byte).length + 1 ≠ 3) ∧
    ((parsing (.inSysex [0xF0])).pu = .inSysex [0xF0] ∧ ([0xF0] : List Byte).length + 1 ≠ 3) ∧
    (parsing (.inSysex [0xF0, 1])).pu = .inSysex [0xF0, 1] := by decide

theorem witness_EveryByteHasOneResult :
    (parsing (.inSysex [0xF0, 1])).pu.inv = true ∧ (parsing (.awaitingData 0x90 [0x3C])).pu.inv = true := by decide

theorem witness_RealtimeIsTransparent :
    0xF8 ≤ (0xF8 : Byte).toNat ∧ ∃ t u xs ys, runInstrs (parseAll [0x90, 0x3C]) State.reset = .next (xs, t) ∧
      runInstrs (parseAll [0x64]) t = .next (ys, u) ∧ t.pu = .awaitingData 0x90 [0x3C] :=
  ⟨by decide, _, _, _, _, rfl, rfl, rfl⟩

theorem witness_ParserFramesSysexRuns : ∀ b ∈ ([0, 0x7F, 2, 3, 4] : List Byte), b.toNat < 0x80 := by decide

theorem witness_ChannelVoiceCodec :
    0x8 ≤ (wire 0x09 0x80 0 0).cin.toNat ∧ (wire 0x09 0x80 0 0).cin.toNat ≤ 0xE ∧
    (wire 0x09 0x80 0 0).b0.toNat >>> 4 ≠ (wire 0x09 0x80 0 0).cin.toNat := by decide

theorem witness_SystemCommonCodec :
    ((wire 0x02 0xF2 0 0).b0 = 0xF2 ∧ (wire 0x02 0xF2 0 0).cin ≠ 0x3) ∧
    ((wire 0x02 0xF6 0 0).b0 = 0xF6 ∧ (wire 0x02 0xF6 0 0).cin ≠ 0x5) ∧
    ((wire 0x03 0xFF 1 2).cin = 0x3 ∧ (wire 0x03 0xFF 1 2).b0 = 0xFF) := by decide

theorem witness_RealtimeCodec :
    0xF8 ≤ (wire 0x05 0xF8 0 0).b0.toNat ∧ (wire 0x05 0xF8 0 0).cin ≠ 0xF := by decide

theorem witness_SysexFragmentCodec :
    ((wire 0x04 0x90 1 2).cin = 0x4 ∧ 0x80 ≤ (wire 0x04 0x90 1 2).b0.toNat ∧ (wire 0x04 0x90 1 2).b0 ≠ 0xF0) ∧
    ((wire 0x06 0x06 0 0).cin = 0x6 ∧ (wire 0x06 0x06 0 0).b1 ≠ 0xF7) ∧
    ((wire 0x07 0xF0 0x2A 0).cin = 0x7 ∧ (wire 0x07 0xF0 0x2A 0).b2 ≠ 0xF7) := by decide

theorem witness_UnmatchedPacketsAreBad : ∀ row ∈ packetRows, packetWord (wire 0x0F 0xFD 0 0) &&& row.1 ≠ row.2 := by
  have h : (packetRows.all fun row => decide (packetWord (wire 0x0F 0xFD 0 0) &&& row.1 ≠ row.2)) = true := rfl
  intro row hrow
  simpa using List.all_eq_true.mp h row hrow

theorem witness_CodecRoundTrip :
    exec (.decodePacket (wire 0x0C 0xC0 0x05 0x00)) State.reset =
      .next (State.reset.setOutput (some (.ok (.message (.programChange 0 5))))) ∧
    (∀ b ∈ unusedPositions (.programChange 0 5) (wire 0x0C 0xC0 0x05 0x00), b = 0) ∧
    (∀ b ∈ dataPositions (.programChange 0 5) (wire 0x0C 0xC0 0x05 0x00), b.toNat < 0x80) :=
  ⟨rfl, by decide, by decide⟩

theorem witness_YieldedPacketsAreConsistent :
    (parsing (.inSysex [0xF0, 1])).pu.inv = true ∧ ∃ t p,
      exec (.parseByte 2) (parsing (.inSysex [0xF0, 1])) = .next t ∧ t.output = some (.ok (.optPacket (some p))) :=
  ⟨by decide, _, _, rfl, rfl⟩

theorem witness_YieldedPacketsAreConsistent_generator :
    ∃ t p, exec .genNext (State.reset.setTgMsgs [.sysexEmpty]) = .next t ∧
      t.output = some (.ok (.optPacket (some p))) := ⟨_, _, rfl, rfl⟩

theorem witness_OtherMessagesResetTheCapture :
    isSysexFragment .timingClock = false ∧ isSysexFragment (.noteOn 0 0x3C 0x64) = false := by decide

theorem witness_CaptureRestoresTheBody :
    (∀ b ∈ ([1, 2, 0x7F] : List Byte), b.toNat < 0x80) ∧
    ([1, 2, 0x7F] : List Byte).length ≤ State.reset.params.captureCapacity ∧
    ([1, 2, 0x7F] : List Byte).length >
      ({ State.reset with params := { Params.default with captureCapacity := 2 } }).params.captureCapacity := by decide

theorem witness_FlattenGeneratesEachTokensBytes :
    programWellFormed everyToken = true ∧ programWellFormed [.val 0x7F] = true ∧
    programWellFormed [.val 0x80] = false ∧ programWellFormed [.cap (.other 0)] = false := by decide

theorem witness_FrameCutsTheBodyInThrees :
    (∀ b ∈ ([0x7F] : List Byte), b.toNat < 0x80) ∧ ∃ b ∈ ([0x7F, 0x80] : List Byte), 0x80 ≤ b.toNat := by decide

theorem witness_GeneratorStartsOnTheFramedProgram :
    programWellFormed everyToken = true ∧ programWellFormed [.seq [1, 0x80]] = false := by decide

theorem witness_GeneratorYieldsTheNextPacket :
    State.reset.tgK = State.reset.tgMsgs.length ∧
    (State.reset.setTgMsgs [.sysexEmpty]).tgMsgs[(State.reset.setTgMsgs [.sysexEmpty]).tgK]? = some .sysexEmpty ∧
    encodesTo .sysexEmpty 0x6 0xF0 0xF7 0 := ⟨rfl, rfl, fun _ _ => rfl⟩

theorem witness_MatchWalksTheBuffer :
    programWellFormed [.skip 1, .cap (.bytes 0)] = true ∧ programWellFormed [.val 0xFF] = false := by decide

theorem witness_MatchIsExactSegmentation : programWellFormed everyToken = true := by decide

theorem witness_ProgramsMatchTheirOwnBytes : programWellFormed programW9 = true := by decide

theorem witness_GeneratorParserAndCaptureAgree :
    programWellFormed everyToken = true ∧ State.reset.params.parserCable = 0 ∧
    (everyToken.flatMap generated).length ≤ State.reset.params.captureCapacity := by decide

theorem witness_ParserUndoesTheCompressor :
    completeRuns false [.noteOn 0 1 2, .noteOn 0 3 4, .sysexBegin 1 2, .timingClock, .sysexEnd1 3, .sysexEmpty] = true ∧
    State.reset.rcLast = none ∧ State.reset.pu = .idle ∧ State.reset.params.parserCable = 0 := by decide

theorem witness_WellFormedInstructionsComplete :
    (captured [1, 2]).inv = true ∧ (Instr.rcPack [0xF8]).wellFormed = true ∧ (Instr.rcPack []).wellFormed = false := by
  decide

theorem witness_StepKeepsTheInvariants :
    (issuing (.issue (.serial 0x90))).inv = true ∧ ∃ t, step (issuing (.issue (.serial 0x90))) = .next t :=
  ⟨by decide, (parsing (.awaitingData 0x90 [])).setOutput silent, rfl⟩

theorem witness_OnlyItsUnitWritesAnElement :
    ∃ t, exec (.rcPack [0x90, 1, 2]) (parsing (.inSysex [1])) = .next t ∧
      isParserInstr (.rcPack [0x90, 1, 2]) = false ∧ t.rcLast = some 0x90 := ⟨_, rfl, rfl, rfl⟩

theorem witness_ErrorsLeaveTheirErrorState :
    (∃ t, exec .byteSysexEndSpurious (parsing (.awaitingData 0x90 [1])) = .next t ∧
      t.output = some (.err (.spuriousSysexEnd (some 0xF7)))) ∧
    (∃ t, exec (.captureStep .sysexEnd) State.reset = .next t ∧
      t.output = some (.err (.spuriousSysexEnd none))) ∧
    ∃ t, exec (.captureStep (.sysexCont 3 4 5))
        { captured [1, 2] with params := { Params.default with captureCapacity := 4 } } = .next t ∧
      t.output = some (.err .bufferOverflow) := ⟨⟨_, rfl, rfl⟩, ⟨_, rfl, rfl⟩, ⟨_, rfl, rfl⟩⟩

theorem witness_ErrorsComeFromTheirOperations :
    (parsing (.awaitingData 0x90 [1])).pu.inv = true ∧ ∃ t,
      exec (.parseByte 0xF7) (parsing (.awaitingData 0x90 [1])) = .next t ∧
        t.output = some (.err (.spuriousSysexEnd (some 0xF7))) := ⟨by decide, _, rfl, rfl⟩

theorem witness_DecodeEncodeAgree :
    selectedIn .inSysex (.byteDataInSysex 1) = true ∧ selectedIn .idle (.byteDataIdle 1) = true ∧
    selectedIn .awaitingData .byteSysexEndSpurious = true ∧ selectedIn .inSysex .byteSysexEndInSysex = true := by decide

theorem witness_StepRunsTheDecodedInstruction :
    (issuing (.issue (.serial 0x93))).pending = .issue (.serial 0x93) :: [] ∧
    decode (issuing (.issue (.serial 0x93))).pu.mode (.serial 0x93) = .ok (.byteNoteOn 3) := by decide

/-- R409: an operand outside its declared type is refused by a step and not truncated: a cable of 16, a message field of
128, a byte of 256. -/
theorem test_operand_types :
    step (issuing (.issue (.command 0x50 [.nat 16, .message .timingClock []]))) = .refused (.operandType 0x50) ∧
    step (issuing (.issue (.command 0x60 [.message .sysexEnd1 [128]]))) = .refused (.operandType 0x60) ∧
    step (issuing (.issue (.command 0x40 [.nat 256]))) = .refused (.operandType 0x40) := ⟨rfl, rfl, rfl⟩

/-- The clauses on operand types: each kind of operand just outside its type, and just inside it. -/
theorem witness_StepWaitsOrRefuses_operands :
    ((operandTypes 0x50).map fun types => fits types [.nat 16, .message .timingClock []]) = some false ∧
    ((operandTypes 0x50).map fun types => fits types [.nat 15, .message .pitchBend [15, 16383]]) = some true ∧
    ((operandTypes 0x60).map fun types => fits types [.message .sysexEnd1 [128]]) = some false ∧
    ((operandTypes 0x60).map fun types => fits types [.message .sysexEnd1 [127]]) = some true ∧
    ((operandTypes 0x40).map fun types => fits types [.nat 256]) = some false ∧
    ((operandTypes 0x40).map fun types => fits types [.nat 255]) = some true ∧
    ((operandTypes 0x01).map fun types => fits types [.nat 8, .nat 0]) = some false ∧
    ((operandTypes 0x71).map fun types => fits types [.bytes [0, 256]]) = some false ∧
    ((operandTypes 0x51).map fun types => fits types [.packet 16 0 0 0 0]) = some false ∧
    ((operandTypes 0x70).map fun types => fits types [.program [.val 256]]) = some false ∧
    ((operandTypes 0x41).map fun types => fits types [.nat 0]) = some false ∧
    ((operandTypes 0x41).map fun types => fits types []) = some true := by decide

/-- Every assigned code has operand types, and no other. -/
theorem test_operandTypes_cover : ∀ code : Byte, (operandTypes code.toNat).isSome = decide (code.toNat ∈ assignedCodes) := by
  decide

theorem witness_StepWaitsOrRefuses :
    State.reset.pending = [] ∧ (0x0B : Byte).toNat ∉ assignedCodes ∧ (0x00 : Byte).toNat ∉ assignedCodes ∧
    (0xFF : Byte).toNat ∉ assignedCodes ∧
    (issuing (.unordered (.serial 0x90) (.command 0x41 []))).pending =
      .unordered (.serial 0x90) (.command 0x41 []) :: [] ∧
    unitOf (.serial 0x90) = unitOf (.command 0x41 []) ∧ unitOf (.serial 0x90) ≠ unitOf (.usb 0 0 0 0) ∧
    (issuing (.callerWrite 0 1)).pending = .callerWrite 0 1 :: [] := by decide

end Sys2Proof.Tests
end

section
/-! The state after construction and after reset (spec/10_state.md R43), one equation per state element. -/

namespace Sys2Proof.Machine

@[simp] theorem State.initial_pu (params : Params) : (State.initial params).pu = .idle := rfl
@[simp] theorem State.initial_rcLast (params : Params) : (State.initial params).rcLast = none := rfl
@[simp] theorem State.initial_scBuf (params : Params) : (State.initial params).scBuf = [] := rfl
@[simp] theorem State.initial_tgMsgs (params : Params) : (State.initial params).tgMsgs = [] := rfl
@[simp] theorem State.initial_tgK (params : Params) : (State.initial params).tgK = 0 := rfl
@[simp] theorem State.initial_tgCable (params : Params) : (State.initial params).tgCable = 0 := rfl
@[simp] theorem State.initial_params (params : Params) : (State.initial params).params = params := rfl

/-- R43 and R440 give one state: the reset state is a construction with its own parameters. -/
theorem State.reset_eq_initial_params : State.reset = State.initial State.reset.params := by
  rw [State.reset, State.initial_params]

/-- Settles O50: the six elements of R43 by their equations, and reset as a construction. -/
theorem resetValuesAreTheSpecs : Obligations.ResetValuesAreTheSpecs := fun params =>
  ⟨State.initial_pu params, State.initial_rcLast params, State.initial_scBuf params, State.initial_tgMsgs params,
    State.initial_tgK params, State.initial_tgCable params, State.reset_eq_initial_params⟩

end Sys2Proof.Machine
end

section
/-! Bounded integers (spec/40_bounded.md): the operand readers their codes use and the end of an operation that checks a
range, each said once; then what each conversion gives, in the arithmetic of its rule. -/

namespace Sys2Proof

/-- A command decodes to what the reader of its code (R117) makes of the operands, whatever the parser's form. -/
theorem decode_command_of_read (mode : ParserMode) {code : Byte} {operands : List Operand}
    {read : List Operand → Option Instr} {i : Instr}
    (hc : operation? code.toNat = some read) (hr : read operands = some i) :
    decode mode (.command code operands) = .ok i :=
  decodeCommand_of_read hc hr

theorem widthNat_bits (f : Width → Nat → Instr) (n : Width) (v : Nat) :
    widthNat f [.nat n.bits, .nat v] = some (f n v) := by
  simp [widthNat]

theorem oneWord_toNat {w : Nat} (f : BitVec w → Instr) (v : BitVec w) : oneWord w f [.nat v.toNat] = some (f v) := by
  simp [oneWord]

theorem twoBytes_toNat (f : Byte → Byte → Instr) (a b : Byte) :
    twoBytes f [.nat a.toNat, .nat b.toNat] = some (f a b) := by
  simp [twoBytes]

/-- `MAX_N` is the greatest value of N bits (R160). -/
theorem Width.max_eq (n : Width) : n.max = 2 ^ n.bits - 1 := by cases n <;> rfl

end Sys2Proof

namespace Sys2Proof.Machine

/-- An operation that raises `e` outside its range and returns a natural inside it writes the one or the other as its
output (R401). -/
theorem concludeNat_ite (p : Prop) [Decidable p] (e : ErrorKind) (v : Nat) (s : State) :
    concludeNat (if p then .error e else .ok v) s = .next (s.setOutput (some (if p then .err e else .ok (.nat v)))) := by
  split <;> rfl

/-- The low N bits, as the mask of R161. -/
theorem cullTo_eq_and (n : Width) (wide : Nat) : cullTo n wide = wide &&& (2 ^ n.bits - 1) :=
  (Nat.and_two_pow_sub_one_eq_mod wide n.bits).symm

/-- The clamp of R162, by the power of two. -/
theorem fillTo_eq_ite (n : Width) (wide : Nat) :
    fillTo n wide = if wide > 2 ^ n.bits - 1 then 2 ^ n.bits - 1 else wide := by
  rw [fillTo, n.max_eq]

/-- FROM_DIRECT answers by the range of UN (R163). -/
theorem exec_fromDirect (n : Width) (wide : Nat) (s : State) :
    exec (.fromDirect n wide) s = .next (s.setOutput (some
      (if wide > 2 ^ n.bits - 1 then .err (.invalidValue n [wide]) else .ok (.nat wide)))) := by
  rw [← n.max_eq]
  exact concludeNat_ite (n.max < wide) _ wide s

/-- An MSB of 7 bits loses no bit when it is shifted up within the 14 of the joined value (R165). -/
theorem toNat_u14_join {msb : Byte} (hm : msb.toNat ≤ 0x7F) (lsb : Byte) :
    (msb.setWidth 14 <<< 7 ||| lsb.setWidth 14).toNat = msb.toNat <<< 7 ||| lsb.toNat := by
  have hmsb : msb.toNat <<< 7 < 2 ^ 14 := by rw [Nat.shiftLeft_eq]; omega
  simp only [BitVec.toNat_or, BitVec.toNat_shiftLeft]
  rw [BitVec.toNat_setWidth_of_le (by decide), BitVec.toNat_setWidth_of_le (by decide), Nat.mod_eq_of_lt hmsb]

/-- U14_FROM_PAIR answers by the range of both bytes (R165). -/
theorem exec_u14FromPair (msb lsb : Byte) (s : State) :
    exec (.u14FromPair msb lsb) s = .next (s.setOutput (some
      (if msb.toNat > 0x7F ∨ lsb.toNat > 0x7F then .err (.invalidValue .w14 [msb.toNat, lsb.toNat])
      else .ok (.nat (msb.toNat <<< 7 ||| lsb.toNat))))) := by
  change concludeNat ((u14FromBytes msb lsb).map BitVec.toNat) s = _
  by_cases h : msb.toNat > 0x7F ∨ lsb.toNat > 0x7F
  · rw [u14FromBytes, if_pos h, if_pos h]
    rfl
  · have hv := toNat_u14_join (msb := msb) (by omega) lsb
    rw [u14FromBytes, if_neg h, if_neg h, ← hv]
    rfl

/-- `v[13:7]` is the number shifted down (R166). -/
theorem u14Msb_eq_ofNat (v : U14) : u14Msb v = BitVec.ofNat 7 (v.toNat >>> 7) := rfl

/-- `v[6:0]` is the number under the mask of 7 bits (R166). -/
theorem u14Lsb_eq_ofNat (v : U14) : u14Lsb v = BitVec.ofNat 7 (v.toNat &&& 0x7F) := by
  apply BitVec.eq_of_toNat_eq
  have hmask : v.toNat &&& 0x7F = v.toNat % 2 ^ 7 := Nat.and_two_pow_sub_one_eq_mod v.toNat 7
  simp [u14Lsb, hmask]

/-- TO_WIDE of a value of type UN returns it (R164). -/
theorem exec_toWide_of_le {n : Width} {v : Nat} (h : v ≤ 2 ^ n.bits - 1) (s : State) :
    exec (.toWide n v) s = .next (s.setOutput (some (.ok (.nat v)))) :=
  if_pos (n.max_eq ▸ h)

/-- TO_WIDE of any other value is refused (R409). -/
theorem exec_toWide_of_gt {n : Width} {v : Nat} (h : v > 2 ^ n.bits - 1) (s : State) :
    exec (.toWide n v) s = .refused (.valueNotBounded n v) :=
  if_neg (Nat.not_le.mpr (n.max_eq ▸ h))

/-- Settles O1: the mask, the clamp and the range check of R161 to R163. -/
theorem wideValuesAreCulledClampedOrRejected : Obligations.WideValuesAreCulledClampedOrRejected := by
  intro mode n wide s
  refine ⟨decode_command_of_read mode rfl (widthNat_bits _ n wide), ?_,
    decode_command_of_read mode rfl (widthNat_bits _ n wide), ?_,
    decode_command_of_read mode rfl (widthNat_bits _ n wide), exec_fromDirect n wide s⟩
  · rw [← cullTo_eq_and]
    rfl
  · rw [← fillTo_eq_ite]
    rfl

/-- Settles O2: a value of the type is returned, any other refused. -/
theorem toWideIsLossless : Obligations.ToWideIsLossless := fun mode n v s =>
  ⟨decode_command_of_read mode rfl (widthNat_bits _ n v), fun h => exec_toWide_of_le h s,
    fun h => exec_toWide_of_gt h s⟩

/-- Settles O3: the join within 14 bits, and the two halves as a shift and a mask. -/
theorem fourteenBitPairsJoinAndSplit : Obligations.FourteenBitPairsJoinAndSplit := by
  intro mode msb lsb v s
  refine ⟨decode_command_of_read mode rfl (twoBytes_toNat _ msb lsb), exec_u14FromPair msb lsb s,
    decode_command_of_read mode rfl (oneWord_toNat _ v), ?_⟩
  rw [← u14Msb_eq_ofNat, ← u14Lsb_eq_ofNat]
  rfl

/-- Settles O4: CHANNEL_TO_EXTERNAL is total, and the two range checks are one `concludeNat_ite` each. -/
theorem channelsCablesAndCodesAreConverted : Obligations.ChannelsCablesAndCodesAreConverted := fun mode c x s =>
  ⟨decode_command_of_read mode rfl (oneWord_toNat _ c), rfl,
    decode_command_of_read mode rfl rfl, concludeNat_ite (15 < x) _ x s,
    decode_command_of_read mode rfl rfl, concludeNat_ite (15 < x) _ x s⟩

end Sys2Proof.Machine
end

section
/-! Packets (spec/41_packet.md): the operand readers their codes use, each said once; the padding, the header nibbles and
the length column as the rules write them; then what each packet operation gives. -/

namespace Sys2Proof

theorem cableCinBytes_toNat (f : U4 → U4 → List Byte → Instr) (cable cin : U4) (bytes : List Byte) :
    cableCinBytes f [.nat cable.toNat, .nat cin.toNat, .bytes (bytes.map BitVec.toNat)] = some (f cable cin bytes) := by
  simp [cableCinBytes]

theorem fourBytes_toNat (f : Byte → Byte → Byte → Byte → Instr) (a b c d : Byte) :
    fourBytes f [.nat a.toNat, .nat b.toNat, .nat c.toNat, .nat d.toNat] = some (f a b c d) := by
  simp [fourBytes]

theorem onePacket_fields (f : Packet → Instr) (p : Packet) :
    onePacket f [.packet p.cable.toNat p.cin.toNat p.b0.toNat p.b1.toNat p.b2.toNat] = some (f p) := by
  simp [onePacket]

end Sys2Proof

namespace Sys2Proof.Machine

/-- Padding with the default changes no read: past its end the list reads as the default already (R190). -/
theorem getD_append_replicate_default (bytes : List Byte) (k i : Nat) :
    (bytes ++ List.replicate k 0).getD i 0 = bytes.getD i 0 := by
  by_cases h : i < bytes.length
  · exact List.getD_append bytes _ 0 i h
  · have past : bytes.length ≤ i := Nat.le_of_not_lt h
    rw [List.getD_append_right bytes _ 0 i past, List.getD_eq_getElem?_getD, List.getElem?_getD_replicate_default_eq,
      List.getD_eq_default bytes 0 past]

/-- PACKET_MAKE's packet is the one of the padded list (R190). -/
theorem makePacket_append_replicate (cable cin : U4) (bytes : List Byte) (k : Nat) :
    makePacket cable cin (bytes ++ List.replicate k 0) = makePacket cable cin bytes := by
  simp only [makePacket, getD_append_replicate_default]

/-- PACKET_MAKE of up to three bytes returns the packet of the list (R190). -/
theorem exec_packetMake_of_le {bytes : List Byte} (h : bytes.length ≤ 3) (cable cin : U4) (s : State) :
    exec (.packetMake cable cin bytes) s =
      .next (s.setOutput (some (.ok (.packet (makePacket cable cin bytes))))) :=
  if_pos h

/-- PACKET_MAKE of a longer list is refused (R409). -/
theorem exec_packetMake_of_gt {bytes : List Byte} (h : bytes.length > 3) (cable cin : U4) (s : State) :
    exec (.packetMake cable cin bytes) s = .refused .packetTooLong :=
  if_neg (Nat.not_le.mpr h)

/-- `w[7:4]` is the number shifted down (R191). -/
theorem highNibble_eq_ofNat (w : Byte) : highNibble w = BitVec.ofNat 4 (w.toNat >>> 4) := rfl

/-- `w[3:0]` is the number modulo 16 (R191). -/
theorem lowNibble_eq_ofNat (w : Byte) : lowNibble w = BitVec.ofNat 4 (w.toNat % 16) := by
  apply BitVec.eq_of_toNat_eq
  simp [lowNibble]

/-- The header byte is the cable above the framing code (R192). -/
theorem headerByte_eq_ofNat (p : Packet) : headerByte p = BitVec.ofNat 8 (p.cable.toNat <<< 4 ||| p.cin.toNat) := by
  have hcable : BitVec.ofNat 8 (p.cable.toNat <<< 4) = p.cable.setWidth 8 <<< 4 := by
    apply BitVec.eq_of_toNat_eq
    rw [BitVec.toNat_ofNat, BitVec.toNat_shiftLeft, BitVec.toNat_setWidth_of_le (by decide)]
  have hcin : BitVec.ofNat 8 p.cin.toNat = p.cin.setWidth 8 := BitVec.ofNat_toNat 8 p.cin
  rw [BitVec.ofNat_or, hcable, hcin, headerByte]

/-- The length column, code by code (R108, R193). -/
theorem payloadLenOf_eq_getD (cin : U4) : payloadLenOf cin = Stated.payloadLens.getD cin.toNat none := by
  revert cin
  decide

/-- PACKET_PAYLOAD fails with the packet where its framing code has no length (R194). -/
theorem exec_packetPayload_of_none {p : Packet} (h : payloadLenOf p.cin = none) (s : State) :
    exec (.packetPayload p) s = .next (s.setOutput (some (.err (.badPacket p)))) := by
  change conclude ((payloadOf p).map .bytes) s = _
  rw [payloadOf, h]
  rfl

/-- PACKET_PAYLOAD returns as many bytes as the packet's framing code has (R194). -/
theorem exec_packetPayload_of_some {p : Packet} {n : Nat} (h : payloadLenOf p.cin = some n) (s : State) :
    exec (.packetPayload p) s = .next (s.setOutput (some (.ok (.bytes ([p.b0, p.b1, p.b2].take n))))) := by
  change conclude ((payloadOf p).map .bytes) s = _
  rw [payloadOf, h]
  rfl

/-- Settles O7: the padded list reads as the list itself, and a longer one is refused. -/
theorem packetMakePadsWithZeros : Obligations.PacketMakePadsWithZeros := by
  intro mode cable cin bytes s
  refine ⟨decode_command_of_read mode rfl (cableCinBytes_toNat _ cable cin bytes), fun h => ?_,
    fun h => exec_packetMake_of_gt h cable cin s⟩
  rw [exec_packetMake_of_le h, ← makePacket_append_replicate cable cin bytes (3 - bytes.length)]
  rfl

/-- Settles O8: both operations are total, and their header byte is its two nibbles. -/
theorem wireFormIsFourBytes : Obligations.WireFormIsFourBytes := by
  intro mode w0 w1 w2 w3 p s
  refine ⟨decode_command_of_read mode rfl (fourBytes_toNat _ w0 w1 w2 w3), ?_,
    decode_command_of_read mode rfl (onePacket_fields _ p), ?_⟩
  · rw [← highNibble_eq_ofNat, ← lowNibble_eq_ofNat]
    rfl
  · rw [← headerByte_eq_ofNat]
    rfl

/-- Settles O9: the model's length of a framing code is the spec's column, on which both operations rest. -/
theorem payloadLengthIsTheCodesColumn : Obligations.PayloadLengthIsTheCodesColumn := by
  intro mode cin p s
  refine ⟨decode_command_of_read mode rfl (oneWord_toNat _ cin), ?_,
    decode_command_of_read mode rfl (onePacket_fields _ p), ?_⟩
  · rw [← payloadLenOf_eq_getD]
    rfl
  · rw [← payloadLenOf_eq_getD]
    cases h : payloadLenOf p.cin with
    | none => exact exec_packetPayload_of_none h s
    | some n => exact exec_packetPayload_of_some h s

end Sys2Proof.Machine
end

section
/-! Status bytes and running status (spec/42_status_compressor.md): the nibbles of a byte as numbers, the status table row
by row, what RC_PACK does with a first byte; then what each operation gives. The resets of the other units stand last. -/

namespace Sys2Proof

theorem oneBytes_map_toNat (f : List Byte → Instr) (bytes : List Byte) :
    oneBytes f [.bytes (bytes.map BitVec.toNat)] = some (f bytes) := by
  simp [oneBytes]

end Sys2Proof

namespace Sys2Proof.Machine

/-! ### The status table (R102) -/

/-- The kind nibble is the number shifted down (R113). -/
theorem highNibble_toNat (b : Byte) : (highNibble b).toNat = b.toNat >>> 4 := by
  have hshift : b.toNat >>> 4 < 2 ^ 4 := by rw [Nat.shiftRight_eq_div_pow]; omega
  rw [highNibble_eq_ofNat, BitVec.toNat_ofNat, Nat.mod_eq_of_lt hshift]

/-- The channel nibble is the number modulo 16 (R113). -/
theorem lowNibble_toNat (b : Byte) : (lowNibble b).toNat = b.toNat % 16 := by
  rw [lowNibble_eq_ofNat, BitVec.toNat_ofNat, Nat.mod_mod]

theorem isVoiceByte_iff {b : Byte} : isVoiceByte b = true ↔ 0x80 ≤ b.toNat ∧ b.toNat ≤ 0xEF := decide_eq_true_iff

/-- The channel-voice rows, by kind nibble. -/
theorem voiceKinds_getElem? (nibble : U4) (hl : 0x8 ≤ nibble.toNat) (hu : nibble.toNat ≤ 0xE) :
    Stated.voiceKinds[nibble.toNat - 8]? = some (voiceKind nibble.toNat) := by
  revert nibble
  decide

/-- The system rows, by low nibble; 0xF7 has none. -/
theorem systemKinds_getElem? (low : U4) (h : low.toNat ≠ 0x7) :
    Stated.systemKinds[low.toNat]? = some (some (systemKind low.toNat)) := by
  revert low
  decide

/-- A byte below 0x80 and 0xF7 are no status (R213). -/
theorem classifyByte_of_noStatus {b : Byte} (h : b.toNat < 0x80 ∨ b = 0xF7) :
    classifyByte b = .error (.invalidStatus b) :=
  if_pos (h.imp_right (congrArg BitVec.toNat))

/-- A channel-voice status has the kind of its kind nibble's row (R213). -/
theorem classifyByte_of_voice {b : Byte} {k : StatusKind} (hl : 0x80 ≤ b.toNat) (hu : b.toNat ≤ 0xEF)
    (hk : Stated.voiceKinds[(b.toNat >>> 4) - 8]? = some k) : classifyByte b = .ok k := by
  have hnib : (highNibble b).toNat = b.toNat / 16 := by rw [highNibble_toNat, Nat.shiftRight_eq_div_pow]
  have hrow := voiceKinds_getElem? (highNibble b) (by omega) (by omega)
  rw [highNibble_toNat, hk, ← highNibble_toNat] at hrow
  rw [classifyByte, if_neg (by omega), if_pos hu, Option.some.inj hrow]

/-- A system status has the kind of its row (R213). -/
theorem classifyByte_of_system {b : Byte} {k : StatusKind} (hl : 0xF0 ≤ b.toNat)
    (hk : Stated.systemKinds[b.toNat - 0xF0]? = some (some k)) : classifyByte b = .ok k := by
  have hlow : (lowNibble b).toNat = b.toNat - 0xF0 := by rw [lowNibble_toNat]; omega
  have hne : b.toNat - 0xF0 ≠ 0x7 := fun h => by simp [h, Stated.systemKinds] at hk
  have hrow := systemKinds_getElem? (lowNibble b) (hlow ▸ hne)
  rw [hlow, hk, ← hlow] at hrow
  rw [classifyByte, if_neg (by omega), if_neg (by omega), Option.some.inj (Option.some.inj hrow)]

/-- CLASSIFY ends with what the table gives (R213). -/
theorem exec_classify (b : Byte) (s : State) : exec (.classify b) s = conclude ((classifyByte b).map .status) s := rfl

/-- The length column, by the kinds of each length (R214). -/
theorem expectedLenOf_eq_ite (k : StatusKind) :
    expectedLenOf k = if k ∈ Stated.lengthThree then 3 else if k ∈ Stated.lengthTwo then 2 else 1 := by
  cases k <;> rfl

/-- The channel is the byte under the mask of four bits, for a channel-voice status (R215). -/
theorem channelOfByte_eq_ite (b : Byte) :
    channelOfByte b = if 0x80 ≤ b.toNat ∧ b.toNat ≤ 0xEF then some (b.toNat &&& 0x0F) else none := by
  have hmask : b.toNat &&& 0x0F = b.toNat % 16 := Nat.and_two_pow_sub_one_eq_mod b.toNat 4
  simp only [channelOfByte, isVoiceByte_iff, lowNibble_toNat, hmask]

/-- Settles O10: the three tests are the ranges themselves, and the channel is the masked byte. -/
theorem byteTestsFollowTheRanges : Obligations.ByteTestsFollowTheRanges := by
  intro mode b s
  refine ⟨decode_command_of_read mode rfl (oneWord_toNat _ b), rfl,
    decode_command_of_read mode rfl (oneWord_toNat _ b), rfl,
    decode_command_of_read mode rfl (oneWord_toNat _ b), rfl,
    decode_command_of_read mode rfl (oneWord_toNat _ b), ?_⟩
  rw [← channelOfByte_eq_ite]
  rfl

/-- Settles O11: the model's kind of a byte and length of a kind are the columns of the status table. -/
theorem statusTableGivesKindsAndLengths : Obligations.StatusTableGivesKindsAndLengths := by
  intro mode b k s
  refine ⟨decode_command_of_read mode rfl (oneWord_toNat _ b), fun h => ?_, fun hl hu hk => ?_, fun hl hk => ?_,
    decode_command_of_read mode rfl rfl, ?_⟩
  · rw [exec_classify, classifyByte_of_noStatus h]
    rfl
  · rw [exec_classify, classifyByte_of_voice hl hu hk]
    rfl
  · rw [exec_classify, classifyByte_of_system hl hk]
    rfl
  · rw [← expectedLenOf_eq_ite]
    rfl

/-! ### The running-status compressor (R216, R217) -/

/-- RC_PACK of one to three bytes, by the first byte and the remembered status (R216). -/
theorem exec_rcPack_cons {rest : List Byte} (h : rest.length ≤ 2) (first : Byte) (s : State) :
    exec (.rcPack (first :: rest)) s =
      .next
        (if 0x80 ≤ first.toNat ∧ first.toNat ≤ 0xEF then
          if s.rcLast = some first then s.setOutput (some (.ok (.bytes rest)))
          else (s.setRcLast (some first)).setOutput (some (.ok (.bytes (first :: rest))))
        else (s.setRcLast none).setOutput (some (.ok (.bytes (first :: rest))))) := by
  have hbody : exec (.rcPack (first :: rest)) s = packPayload first rest s := if_pos h
  rw [hbody]
  simp only [packPayload, isVoiceByte_iff]
  split
  · split <;> rfl
  · rfl

/-- A packet that has meaningful bytes has at least one (R108). -/
theorem payloadLenOf_pos {cin : U4} {n : Nat} (h : payloadLenOf cin = some n) : 1 ≤ n := by
  have hall : ∀ cin : U4, ∀ n ∈ payloadLenOf cin, 1 ≤ n := by decide
  exact hall cin n h

/-- RC_SERIALIZE fails with the packet where its framing code has no length (R217). -/
theorem exec_rcSerialize_of_none {p : Packet} (h : payloadLenOf p.cin = none) (s : State) :
    exec (.rcSerialize p) s = .next (s.setOutput (some (.err (.badPacket p)))) := by
  change execRcSerialize p s = _
  rw [execRcSerialize, payloadOf, h]
  rfl

/-- RC_SERIALIZE is RC_PACK of the meaningful bytes (R217). -/
theorem exec_rcSerialize_of_some {p : Packet} {n : Nat} (h : payloadLenOf p.cin = some n) (s : State) :
    exec (.rcSerialize p) s = exec (.rcPack ([p.b0, p.b1, p.b2].take n)) s := by
  change execRcSerialize p s = _
  rw [execRcSerialize, payloadOf, h]
  rfl

/-- RC_PACK accepts the meaningful bytes of every packet that has some. -/
theorem exec_rcPack_take_next {p : Packet} {n : Nat} (h : payloadLenOf p.cin = some n) (s : State) :
    ∃ t, exec (.rcPack ([p.b0, p.b1, p.b2].take n)) s = .next t := by
  obtain ⟨m, rfl⟩ : ∃ m, n = m + 1 := Nat.exists_eq_add_of_le' (payloadLenOf_pos h)
  rw [List.take_succ_cons]
  exact ⟨_, exec_rcPack_cons (List.length_take_le' m [p.b1, p.b2]) p.b0 s⟩

/-- Settles O12: the three outcomes of a first byte; an empty payload is refused. -/
theorem packElidesARepeatedVoiceStatus : Obligations.PackElidesARepeatedVoiceStatus := fun mode first rest s =>
  ⟨decode_command_of_read mode rfl (oneBytes_map_toNat _ (first :: rest)), fun h => exec_rcPack_cons h first s, rfl⟩

/-- Settles O13: by the length of the packet's framing code; where there is one, RC_PACK is never refused. -/
theorem serializePacksTheMeaningfulBytes : Obligations.SerializePacksTheMeaningfulBytes := by
  intro mode p s
  rw [← payloadLenOf_eq_getD]
  refine ⟨decode_command_of_read mode rfl (onePacket_fields _ p), fun h => exec_rcSerialize_of_none h s,
    fun n h => ?_⟩
  obtain ⟨t, ht⟩ := exec_rcPack_take_next h s
  exact ⟨t, ht, (exec_rcSerialize_of_some h s).trans ht⟩

/-! ### The resets of the units -/

/-- Settles O14: each reset is one write to its unit, whatever the state. -/
theorem unitResetsRestoreTheUnit : Obligations.UnitResetsRestoreTheUnit := fun mode _ =>
  ⟨decode_command_of_read mode rfl rfl, rfl, decode_command_of_read mode rfl rfl, rfl,
    decode_command_of_read mode rfl rfl, rfl, decode_command_of_read mode rfl rfl, rfl⟩

end Sys2Proof.Machine
end

section
/-! The byte-stream parser (spec/43_parser.md): PARSE_BYTE's dispatch by byte class (R240); the length and framing code
of a status that takes data (R102, R249); then what each class of byte does. -/

open Sys2Proof.Stated

namespace Sys2Proof.Machine

/-! ### Bytes as the statements write them -/

/-- A data field is zero-extended to its byte (R110). -/
theorem field_eq_fieldByte (v : U7) : field v = fieldByte v := BitVec.ofNat_toNat 8 v

/-- A channel-voice status byte is its kind nibble above its channel (R101). -/
theorem append_eq_voiceByte (nibble ch : U4) : nibble ++ ch = voiceByte nibble ch := by
  apply BitVec.eq_of_toNat_eq
  have hlt : nibble.toNat * 16 + ch.toNat < 2 ^ 8 := by omega
  rw [BitVec.toNat_append, ← Nat.shiftLeft_add_eq_or_of_lt ch.isLt, Nat.shiftLeft_eq, voiceByte, BitVec.toNat_ofNat,
    Nat.mod_eq_of_lt hlt]

theorem takesData_voiceByte {nibble : U4} (hl : 0x8 ≤ nibble.toNat) (hu : nibble.toNat ≤ 0xE) (ch : U4) :
    takesData (voiceByte nibble ch) := by
  have hval : (voiceByte nibble ch).toNat = nibble.toNat * 16 + ch.toNat :=
    (BitVec.toNat_ofNat _ 8).trans (Nat.mod_eq_of_lt (by omega))
  exact .inl ⟨by omega, by omega⟩

/-! ### PARSE_BYTE by class of byte (R240) -/

theorem isRealtimeByte_iff {b : Byte} : isRealtimeByte b = true ↔ 0xF8 ≤ b.toNat := decide_eq_true_iff

theorem isStatusByte_iff {b : Byte} : isStatusByte b = true ↔ 0x80 ≤ b.toNat := decide_eq_true_iff

theorem exec_parseByte_of_realtime {b : Byte} (h : 0xF8 ≤ b.toNat) (s : State) :
    exec (.parseByte b) s = parseRealtime b s :=
  if_pos (isRealtimeByte_iff.mpr h)

theorem exec_parseByte_of_status {b : Byte} (hl : 0x80 ≤ b.toNat) (hu : b.toNat < 0xF8) (hstart : b ≠ 0xF0)
    (hend : b ≠ 0xF7) (s : State) : exec (.parseByte b) s = parseStatusByte b s := by
  have hrt : ¬ 0xF8 ≤ b.toNat := by omega
  change execParseByte b s = _
  rw [execParseByte, if_neg (mt isRealtimeByte_iff.mp hrt), if_neg hstart, if_neg hend,
    if_pos (isStatusByte_iff.mpr hl)]

theorem exec_parseByte_of_data {b : Byte} (h : b.toNat < 0x80) (s : State) :
    exec (.parseByte b) s = parseDataByte b s := by
  have hrt : ¬ 0xF8 ≤ b.toNat := by omega
  have hst : ¬ 0x80 ≤ b.toNat := by omega
  have hstart : b ≠ 0xF0 := by rintro rfl; exact absurd h (by decide)
  have hend : b ≠ 0xF7 := by rintro rfl; exact absurd h (by decide)
  change execParseByte b s = _
  rw [execParseByte, if_neg (mt isRealtimeByte_iff.mp hrt), if_neg hstart, if_neg hend,
    if_neg (mt isStatusByte_iff.mp hst)]

/-- PARSE_BYTE of 0xF7 and both its rows are one step. -/
theorem exec_eq_parseEndByte {i : Instr}
    (hi : i = .parseByte 0xF7 ∨ i = .byteSysexEndInSysex ∨ i = .byteSysexEndSpurious) (s : State) :
    exec i s = parseEndByte s := by
  rcases hi with rfl | rfl | rfl <;> rfl

/-- PARSE_BYTE of a data field's byte and the three data-byte rows of the field are one step. -/
theorem exec_eq_parseDataByte {v : U7} {i : Instr}
    (hi : i = .parseByte (field v) ∨ i = .byteDataIdle v ∨ i = .byteDataAwaitingData v ∨ i = .byteDataInSysex v)
    (s : State) : exec i s = parseDataByte (field v) s := by
  rw [field_eq_fieldByte] at hi ⊢
  rcases hi with rfl | hrow
  · exact exec_parseByte_of_data (fieldByte_lt v) s
  · rcases hrow with rfl | rfl | rfl <;> rfl

/-! ### The status of a message with data bytes -/

/-- A channel-voice status is none of the system bytes. -/
theorem ne_of_isVoice {b c : Byte} (h : isVoice b) (hc : 0xEF < c.toNat) : b ≠ c := by
  rintro rfl
  exact Nat.not_lt.mpr h.2 hc

theorem highNibble_toNat_eq_div (b : Byte) : (highNibble b).toNat = b.toNat / 16 := by
  rw [highNibble_toNat, Nat.shiftRight_eq_div_pow]

theorem classifyByte_of_isVoice {b : Byte} (h : isVoice b) :
    classifyByte b = .ok (voiceKind (highNibble b).toNat) := by
  obtain ⟨hl, hu⟩ := h
  have hnib := highNibble_toNat_eq_div b
  have hrow := voiceKinds_getElem? (highNibble b) (by omega) (by omega)
  exact classifyByte_of_voice hl hu (highNibble_toNat b ▸ hrow)

/-- Among the channel-voice kinds those of nibbles 0xC and 0xD have one data byte, the others two (R102). -/
theorem expectedLenOf_voiceKind (nibble : U4) :
    expectedLenOf (voiceKind nibble.toNat) = if 0xC ≤ nibble.toNat ∧ nibble.toNat ≤ 0xD then 2 else 3 := by
  revert nibble
  decide

theorem expectedLenOf_of_isVoice {b : Byte} (h : isVoice b) :
    expectedLenOf (voiceKind (highNibble b).toNat) = lengthOf b := by
  have hnib := highNibble_toNat_eq_div b
  have hsys : ¬ (b = 0xF1 ∨ b = 0xF3) := not_or.mpr ⟨ne_of_isVoice h (by decide), ne_of_isVoice h (by decide)⟩
  rw [expectedLenOf_voiceKind, lengthOf, hnib]
  exact if_congr (by rw [or_iff_left hsys]; omega) rfl rfl

theorem cinFor_of_isVoice {b : Byte} (h : isVoice b) (k : StatusKind) : cinFor b k = cinOf b := by
  have hsys : ¬ (b = 0xF1 ∨ b = 0xF3) := not_or.mpr ⟨ne_of_isVoice h (by decide), ne_of_isVoice h (by decide)⟩
  rw [cinFor, if_pos (isVoiceByte_iff.mpr h), highNibble_eq_ofNat, cinOf, if_neg hsys,
    if_neg (ne_of_isVoice h (by decide))]

/-- A status that takes data has a kind, whose length and framing code are the columns of R102 and R249. -/
theorem classifyByte_of_takesData {b : Byte} (h : takesData b) :
    ∃ k, classifyByte b = .ok k ∧ expectedLenOf k = lengthOf b ∧ cinFor b k = cinOf b := by
  rcases h with hv | rfl | rfl | rfl
  · exact ⟨_, classifyByte_of_isVoice hv, expectedLenOf_of_isVoice hv, cinFor_of_isVoice hv _⟩
  · exact ⟨.timeCodeQuarterFrame, rfl, rfl, rfl⟩
  · exact ⟨.songPositionPointer, rfl, rfl, rfl⟩
  · exact ⟨.songSelect, rfl, rfl, rfl⟩

theorem lengthOf_ne_one (b : Byte) : lengthOf b ≠ 1 := by
  rw [lengthOf]
  split <;> decide

/-! ### What a status byte does (R245) -/

theorem parseStatusByte_of_takesData {b : Byte} (h : takesData b) (s : State) : parseStatusByte b s = awaits b s := by
  obtain ⟨k, hk, hlen, -⟩ := classifyByte_of_takesData h
  simp only [parseStatusByte, hk]
  rw [hlen, if_neg (lengthOf_ne_one b)]
  rfl

theorem exec_parseByte_of_takesData {b : Byte} (h : takesData b) (s : State) :
    exec (.parseByte b) s = awaits b s := by
  rw [← parseStatusByte_of_takesData h]
  rcases h with hv | rfl | rfl | rfl
  · have hu : b.toNat < 0xF8 := Nat.lt_of_le_of_lt hv.2 (by decide)
    exact exec_parseByte_of_status hv.1 hu (ne_of_isVoice hv (by decide)) (ne_of_isVoice hv (by decide)) s
  · rfl
  · rfl
  · rfl

/-- Each channel-voice row is the status byte of its nibble. -/
theorem parseStatusByte_append {nibble : U4} (hl : 0x8 ≤ nibble.toNat) (hu : nibble.toNat ≤ 0xE) (ch : U4)
    (s : State) : parseStatusByte (nibble ++ ch) s = awaits (voiceByte nibble ch) s := by
  rw [append_eq_voiceByte, parseStatusByte_of_takesData (takesData_voiceByte hl hu ch)]

/-! ### What 0xF7 does (R243, R244) -/

theorem parseEndByte_of_inSysex {s : State} {collected : List Byte} (h : s.pu = .inSysex collected) :
    parseEndByte s = parseSysexEnd collected s := by
  rw [parseEndByte, h]

theorem parseEndByte_of_not_inSysex {s : State}
    (h : s.pu = .idle ∨ ∃ status collected, s.pu = .awaitingData status collected) :
    parseEndByte s = parseSpuriousEnd s := by
  rcases h with h | ⟨status, collected, h⟩ <;> rw [parseEndByte, h]

/-! ### What a data byte does (R246 to R248) -/

theorem parseDataByte_of_idle {s : State} (h : s.pu = .idle) (b : Byte) : parseDataByte b s = parseDataIdle b s := by
  rw [parseDataByte, h]

theorem parseDataByte_of_awaitingData {s : State} {status : Byte} {collected : List Byte}
    (h : s.pu = .awaitingData status collected) (b : Byte) :
    parseDataByte b s = parseDataAwaiting status collected b s := by
  rw [parseDataByte, h]

theorem parseDataByte_of_inSysex {s : State} {collected : List Byte} (h : s.pu = .inSysex collected) (b : Byte) :
    parseDataByte b s = parseDataSysex collected b s := by
  rw [parseDataByte, h]

/-- The status stays as running status for channel voice, and for system common where the parameter says so (R247). -/
theorem afterMessage_eq_ite (params : Params) (status : Byte) :
    afterMessage params status =
      if (0x80 ≤ status.toNat ∧ status.toNat ≤ 0xEF) ∨ params.sysCommonRunningStatus then .awaitingData status []
      else .idle := by
  simp only [afterMessage, Bool.or_eq_true, isVoiceByte_iff]

/-- The data byte that completes the message emits its packet (R247). -/
theorem parseDataAwaiting_of_last {status : Byte} (hst : takesData status) {collected : List Byte}
    (h : collected.length + 1 = lengthOf status - 1) (b : Byte) (s : State) :
    parseDataAwaiting status collected b s =
      .next ((s.setPu (afterMessage s.params status)).setOutput
        (emitted s (cinOf status) status ((collected ++ [b]).getD 0 0) ((collected ++ [b]).getD 1 0))) := by
  obtain ⟨k, hk, hlen, hcin⟩ := classifyByte_of_takesData hst
  simp only [parseDataAwaiting, hk, hlen, hcin, List.length_append, List.length_singleton]
  rw [if_pos h]
  rfl

/-- Any other data byte is kept (R247). -/
theorem parseDataAwaiting_of_not_last {status : Byte} (hst : takesData status) {collected : List Byte}
    (h : collected.length + 1 ≠ lengthOf status - 1) (b : Byte) (s : State) :
    parseDataAwaiting status collected b s =
      .next ((s.setPu (.awaitingData status (collected ++ [b]))).setOutput silent) := by
  obtain ⟨k, hk, hlen, -⟩ := classifyByte_of_takesData hst
  simp only [parseDataAwaiting, hk, hlen, List.length_append, List.length_singleton]
  rw [if_neg h]
  rfl

theorem parseDataSysex_of_not_third {collected : List Byte} (h : collected.length + 1 ≠ 3) (b : Byte) (s : State) :
    parseDataSysex collected b s = .next ((s.setPu (.inSysex (collected ++ [b]))).setOutput silent) := by
  rw [parseDataSysex, List.length_append, List.length_singleton, if_neg h]
  rfl

/-! ### The obligations -/

/-- Settles O15: PARSE_BYTE takes its first branch, and each row is that branch at its byte. -/
theorem realtimeBytesPassThrough : Obligations.RealtimeBytesPassThrough := fun s =>
  ⟨fun _ h => exec_parseByte_of_realtime h s, rfl, rfl, rfl, rfl, rfl, rfl, rfl, rfl⟩

/-- Settles O16: 0xF7 inside a run flushes by the number of collected bytes. -/
theorem sysexEndFlushesTheRun : Obligations.SysexEndFlushesTheRun := by
  intro s a b i hi
  have hexec : exec i s = parseEndByte s := exec_eq_parseEndByte (hi.imp_right .inl) s
  refine ⟨fun h => ?_, fun h => ?_, fun h => ?_⟩ <;> rw [hexec, parseEndByte_of_inSysex h] <;> rfl

/-- Settles O17: by the parser's form, both bytes end in the parser's error step. -/
theorem bytesOutOfPlaceFail : Obligations.BytesOutOfPlaceFail := by
  intro s
  refine ⟨fun i hi h => ?_, fun v i hi h => ?_⟩
  · rw [exec_eq_parseEndByte (hi.imp_right .inr), parseEndByte_of_not_inSysex h]
    rfl
  · rw [exec_eq_parseDataByte (hi.imp_right .inl), parseDataByte_of_idle h]
    rfl

/-- Settles O18: a status that takes data is awaited whatever the state, and each row is the step of its byte. -/
theorem statusBytesStartAMessage : Obligations.StatusBytesStartAMessage := by
  intro s
  refine ⟨rfl, rfl, fun b h => exec_parseByte_of_takesData h s, ?_, fun ch => ?_, rfl, rfl, rfl, rfl, rfl, rfl⟩
  · rintro b (rfl | rfl | rfl) <;> rfl
  · refine ⟨?_, ?_, ?_, ?_, ?_, ?_, ?_⟩ <;> exact parseStatusByte_append (by decide) (by decide) ch s

/-- Settles O19: the two cases of the data step in `AwaitingData`, by the status's length. -/
theorem dataBytesCompleteTheMessage : Obligations.DataBytesCompleteTheMessage := by
  intro s status collected v i hi hpu hst
  rw [exec_eq_parseDataByte (hi.imp_right fun h => .inr (.inl h)), parseDataByte_of_awaitingData hpu,
    ← afterMessage_eq_ite]
  exact ⟨fun h => parseDataAwaiting_of_last hst h (field v) s,
    fun h => parseDataAwaiting_of_not_last hst h (field v) s⟩

/-- Settles O20: the two cases of the data step in `InSysex`. -/
theorem everyThirdSysexByteFlushes : Obligations.EveryThirdSysexByteFlushes := by
  intro s collected a b v i hi
  rw [exec_eq_parseDataByte (hi.imp_right fun h => .inr (.inr h))]
  refine ⟨fun hpu h => ?_, fun hpu => ?_⟩
  · rw [parseDataByte_of_inSysex hpu, parseDataSysex_of_not_third h]
  · rw [parseDataByte_of_inSysex hpu]
    rfl

end Sys2Proof.Machine
end

section
/-! The message codec (spec/44_codec.md): the decode key of R112 as one row per variant, which is both what DECODE
matches and what the packet patterns mask; then the two directions of each shape of variant, each said once. -/

open Sys2Proof.Stated

namespace Sys2Proof

/-- What R112 asks of b0: a kind nibble, one status byte, or a data byte. -/
inductive KeyByte where
  | kind (nibble : U4)
  | status (b : Byte)
  | data
  deriving DecidableEq

/-- The framing code of a variant's row of R112. -/
def Variant.cin : Variant → U4
  | .noteOff => 0x8
  | .noteOn => 0x9
  | .notePressure => 0xA
  | .controlChange => 0xB
  | .programChange => 0xC
  | .channelPressure => 0xD
  | .pitchBend => 0xE
  | .timeCodeQuarterFrame => 0x2
  | .songPositionPointer => 0x3
  | .songSelect => 0x2
  | .tuneRequest => 0x5
  | .timingClock => 0xF
  | .measureEnd => 0xF
  | .start => 0xF
  | .continue_ => 0xF
  | .stop => 0xF
  | .activeSensing => 0xF
  | .systemReset => 0xF
  | .sysexBegin => 0x4
  | .sysexCont => 0x4
  | .sysexEnd => 0x5
  | .sysexEnd1 => 0x6
  | .sysexEnd2 => 0x7
  | .sysexEmpty => 0x6
  | .sysexSingleByte => 0x7

/-- The b0 of a variant's row of R112. -/
def Variant.keyByte : Variant → KeyByte
  | .noteOff => .kind 0x8
  | .noteOn => .kind 0x9
  | .notePressure => .kind 0xA
  | .controlChange => .kind 0xB
  | .programChange => .kind 0xC
  | .channelPressure => .kind 0xD
  | .pitchBend => .kind 0xE
  | .timeCodeQuarterFrame => .status 0xF1
  | .songPositionPointer => .status 0xF2
  | .songSelect => .status 0xF3
  | .tuneRequest => .status 0xF6
  | .timingClock => .status 0xF8
  | .measureEnd => .status 0xF9
  | .start => .status 0xFA
  | .continue_ => .status 0xFB
  | .stop => .status 0xFC
  | .activeSensing => .status 0xFE
  | .systemReset => .status 0xFF
  | .sysexBegin => .status 0xF0
  | .sysexCont => .data
  | .sysexEnd => .status 0xF7
  | .sysexEnd1 => .data
  | .sysexEnd2 => .data
  | .sysexEmpty => .status 0xF0
  | .sysexSingleByte => .status 0xF0

/-- The bits of b1 and b2 a row of R112 fixes: the whole byte where a sysex end has its 0xF7. -/
def Variant.endMask : Variant → Byte × Byte
  | .sysexEmpty => (0xFF, 0)
  | .sysexEnd1 => (0xFF, 0)
  | .sysexSingleByte => (0, 0xFF)
  | .sysexEnd2 => (0, 0xFF)
  | _ => (0, 0)

/-- The bits of b0 a row of R112 fixes. -/
def KeyByte.mask : KeyByte → Byte
  | .kind _ => 0xF0
  | .status _ => 0xFF
  | .data => 0x80

/-- What those bits are. -/
def KeyByte.value : KeyByte → Byte
  | .kind nibble => nibble ++ 0#4
  | .status b => b
  | .data => 0

/-- The mask and match of a variant's row, first wire byte most significant (R71). -/
def Variant.pattern (v : Variant) : BitVec 32 × BitVec 32 :=
  (0x0F#8 ++ v.keyByte.mask ++ v.endMask.1 ++ v.endMask.2,
    (0#4 ++ v.cin) ++ v.keyByte.value ++ (0xF7 &&& v.endMask.1) ++ (0xF7 &&& v.endMask.2))

end Sys2Proof

namespace Sys2Proof.Machine

/-! ### The decode key (R112) -/

/-- A byte is of the form a row asks for. -/
def KeyMatches : KeyByte → Byte → Prop
  | .kind nibble, b => highNibble b = nibble
  | .status c, b => b = c
  | .data, b => b.toNat < 0x80

theorem highNibble_voiceByte (nibble ch : U4) : highNibble (voiceByte nibble ch) = nibble :=
  append_eq_voiceByte nibble ch ▸ BitVec.extractLsb'_append_eq_left

theorem lowNibble_voiceByte (nibble ch : U4) : lowNibble (voiceByte nibble ch) = ch :=
  append_eq_voiceByte nibble ch ▸ BitVec.extractLsb'_append_eq_right

theorem isDataByte_iff {b : Byte} : isDataByte b = true ↔ b.toNat < 0x80 := decide_eq_true_iff

theorem voiceVariant_some {cin : U4} {b0 : Byte} {v : Variant} (h : voiceVariant cin b0 = some v) :
    cin = v.cin ∧ KeyMatches v.keyByte b0 := by
  unfold voiceVariant at h
  split at h
  case isFalse => cases h
  case isTrue hkind =>
    split at h <;> rename_i hcin <;> cases h <;>
      exact ⟨BitVec.eq_of_toNat_eq hcin, hkind.trans (BitVec.eq_of_toNat_eq hcin)⟩

theorem realtimeVariant_some {b0 : Byte} {v : Variant} (h : realtimeVariant b0 = some v) :
    v.cin = 0xF ∧ KeyMatches v.keyByte b0 := by
  unfold realtimeVariant at h
  split at h <;> rename_i hb0 <;> cases h <;> exact ⟨rfl, BitVec.eq_of_toNat_eq hb0⟩

/-- In the framing code of its row, a variant's form of b0 selects it. -/
theorem variantKey_cin {v : Variant} {b0 : Byte} (h : KeyMatches v.keyByte b0) : variantKey v.cin b0 = some v := by
  cases v
  case noteOff | noteOn | notePressure | controlChange | programChange | channelPressure | pitchBend => exact if_pos h
  case sysexCont | sysexEnd1 | sysexEnd2 =>
    have hstart : b0 ≠ 0xF0 := by rintro rfl; exact absurd h (Nat.not_lt.mpr (by decide))
    exact (if_neg hstart).trans (if_pos (isDataByte_iff.mpr h))
  all_goals
    cases h
    rfl

/-- The key selects a variant exactly by its framing code and its form of b0 (R112). -/
theorem variantKey_eq_some_iff {cin : U4} {b0 : Byte} {v : Variant} :
    variantKey cin b0 = some v ↔ cin = v.cin ∧ KeyMatches v.keyByte b0 := by
  refine ⟨fun h => ?_, fun ⟨hcin, hb0⟩ => hcin ▸ variantKey_cin hb0⟩
  unfold variantKey at h
  split at h
  case h_7 hcin =>
    obtain ⟨hv, hb0⟩ := realtimeVariant_some h
    exact ⟨(BitVec.eq_of_toNat_eq hcin).trans hv.symm, hb0⟩
  case h_8 => exact voiceVariant_some h
  case h_1 hcin | h_2 hcin | h_4 hcin =>
    split_ifs at h <;> cases h <;> exact ⟨BitVec.eq_of_toNat_eq hcin, by assumption⟩
  case h_3 hcin | h_5 hcin | h_6 hcin =>
    simp only [isDataByte_iff] at h
    split_ifs at h <;> cases h <;> exact ⟨BitVec.eq_of_toNat_eq hcin, by assumption⟩

/-- A packet matches a variant's row of R112: framing code, form of b0, and the 0xF7 of a sysex end. -/
def Matches (v : Variant) (p : Packet) : Prop :=
  p.cin = v.cin ∧ KeyMatches v.keyByte p.b0 ∧ structureOk v p = true

/-! ### DECODE -/

theorem exec_decodePacket (p : Packet) (s : State) :
    exec (.decodePacket p) s = conclude ((messageOfPacket s.params.decodeDataPolicy p).map .message) s := rfl

/-- DECODE reads a packet as the variant whose row it matches (R282). -/
theorem exec_decodePacket_of_matches {v : Variant} {p : Packet} (h : Matches v p) (s : State) :
    exec (.decodePacket p) s = decodeRow v p s := by
  obtain ⟨hcin, hb0, -⟩ := h
  rw [exec_decodePacket, messageOfPacket, variantKey_eq_some_iff.mpr ⟨hcin, hb0⟩]
  rfl

/-- A packet in a variant's row ends with its fields, or with BadPacket where they cannot be read (R282). -/
theorem decodeRow_of_matches {v : Variant} {p : Packet} (h : Matches v p) (s : State) :
    decodeRow v p s = .next (s.setOutput (some (decoded p (readMessage s.params.decodeDataPolicy v p)))) := by
  obtain ⟨-, -, hend⟩ := h
  rw [decodeRow, decodeAs, if_pos hend]
  cases readMessage s.params.decodeDataPolicy v p <;> rfl

/-- DECODE and the row of a matching packet read the fields of its variant. -/
theorem decodesTo_of_matches {row : Instr} {v : Variant} {p : Packet} {m : DataPolicy → Option Message}
    (hrow : ∀ s, exec row s = decodeRow v p s) (hp : Matches v p) (hm : ∀ policy, readMessage policy v p = m policy) :
    decodesTo row p m := by
  intro s
  rw [hrow, exec_decodePacket_of_matches hp, decodeRow_of_matches hp, hm]
  exact ⟨rfl, rfl⟩

/-- A packet that matches no variant's row is BadPacket (R309). -/
theorem rejected_of_no_match {p : Packet} (h : ∀ v, ¬ Matches v p) : rejected p := by
  intro s
  have hbad : messageOfPacket s.params.decodeDataPolicy p = .error (.badPacket p) := by
    rw [messageOfPacket]
    cases hkey : variantKey p.cin p.b0 with
    | none => rfl
    | some v =>
      obtain ⟨hcin, hb0⟩ := variantKey_eq_some_iff.mp hkey
      exact if_neg fun hs => h v ⟨hcin, hb0, hs⟩
  rw [exec_decodePacket, hbad]
  rfl

/-! ### The packet patterns as masks (R112) -/

theorem and_keyMask {k : KeyByte} {b : Byte} (h : KeyMatches k b) : b &&& k.mask = k.value := by
  cases k with
  | kind nibble =>
    have hsplit : b = nibble ++ lowNibble b := by
      rw [← h]
      exact (BitVec.extractLsb'_append_extractLsb'_eq_extractLsb' rfl).symm ▸ BitVec.extractLsb'_eq_self.symm
    rw [hsplit]
    exact Laws.TableRow.voice_mask nibble _
  | status c => exact h ▸ BitVec.and_allOnes
  | data =>
    have hfield : b = dataByte (bodyField b) := by
      apply BitVec.eq_of_toNat_eq
      have hlt : b.toNat < 2 ^ 7 := h
      simp [dataByte, bodyField]
      omega
    rw [hfield]
    exact Laws.TableRow.data_mask _

theorem and_endMask {v : Variant} {p : Packet} (h : structureOk v p = true) :
    p.b1 &&& v.endMask.1 = 0xF7 &&& v.endMask.1 ∧ p.b2 &&& v.endMask.2 = 0xF7 &&& v.endMask.2 := by
  cases v
  case sysexEmpty | sysexEnd1 =>
    have hb1 : p.b1 = 0xF7 := of_decide_eq_true h
    exact ⟨hb1 ▸ rfl, by simp [Variant.endMask]⟩
  case sysexSingleByte | sysexEnd2 =>
    have hb2 : p.b2 = 0xF7 := of_decide_eq_true h
    exact ⟨by simp [Variant.endMask], hb2 ▸ rfl⟩
  all_goals simp [Variant.endMask]

/-- A packet that matches a variant's row has, under its mask, its match. -/
theorem packetWord_and_pattern {v : Variant} {p : Packet} (h : Matches v p) :
    packetWord p &&& v.pattern.1 = v.pattern.2 := by
  obtain ⟨hcin, hb0, hend⟩ := h
  obtain ⟨hb1, hb2⟩ := and_endMask hend
  rw [Variant.pattern, ← hcin]
  exact Laws.TableRow.record p.cable p.cin p.b0 p.b1 p.b2 _ _ _ _ _ _ (and_keyMask hb0) hb1 hb2

theorem pattern_mem_packetRows (v : Variant) : v.pattern ∈ packetRows := by
  cases v <;> decide

/-! ### The codec's parts as the statements write them -/

/-- The data-field read of R283. -/
theorem d7_eq_dataRead (policy : DataPolicy) (x : Byte) : d7 policy x = dataRead policy x := by
  have hmask : BitVec.ofNat 7 (x.toNat &&& 0x7F) = bodyField x := by
    apply BitVec.eq_of_toNat_eq
    have hand : x.toNat &&& 0x7F = x.toNat % 2 ^ 7 := Nat.and_two_pow_sub_one_eq_mod x.toNat 7
    simp [bodyField, hand]
  unfold d7 dataRead
  rw [hmask]
  cases policy <;> rfl

theorem readOne_eq_map (policy : DataPolicy) (f : U7 → Message) (x : Byte) :
    readOne policy f x = (dataRead policy x).map f := by
  rw [readOne, d7_eq_dataRead]

theorem readTwo_eq_bothRead (policy : DataPolicy) (f : U7 → U7 → Message) (x y : Byte) :
    readTwo policy f x y = bothRead policy x y f := by
  cases hx : dataRead policy x <;> cases hy : dataRead policy y <;> simp [readTwo, bothRead, d7_eq_dataRead, hx, hy]

/-- PitchBend's value is the 14-bit pair of its two bytes, under either policy (R290). -/
theorem readBend_eq_ite (ch : U4) (b1 b2 : Byte) :
    readBend ch b1 b2 =
      if b1.toNat ≥ 0x80 ∨ b2.toNat ≥ 0x80 then none
      else some (.pitchBend ch (BitVec.ofNat 14 (b2.toNat <<< 7 ||| b1.toNat))) := by
  by_cases h : b1.toNat ≥ 0x80 ∨ b2.toNat ≥ 0x80
  · rw [readBend, u14FromBytes, if_pos (by omega), if_pos h]
  · have hjoin := toNat_u14_join (msb := b2) (by omega) b1
    rw [readBend, u14FromBytes, if_neg (by omega), if_neg h, ← hjoin, BitVec.ofNat_toNat, BitVec.setWidth_eq]

theorem bodyField_fieldByte (d : U7) : bodyField (fieldByte d) = d := by
  simp [fieldByte, bodyField]

theorem fieldByte_u14Lsb (v : U14) : fieldByte (u14Lsb v) = BitVec.ofNat 8 (v.toNat &&& 0x7F) := by
  have hmask : v.toNat &&& 0x7F = v.toNat % 2 ^ 7 := Nat.and_two_pow_sub_one_eq_mod v.toNat 7
  have hlt : v.toNat % 2 ^ 7 < 2 ^ 7 := Nat.mod_lt _ (by decide)
  apply BitVec.eq_of_toNat_eq
  rw [fieldByte_toNat, u14Lsb_eq_ofNat, hmask, BitVec.toNat_ofNat, BitVec.toNat_ofNat]
  omega

theorem fieldByte_u14Msb (v : U14) : fieldByte (u14Msb v) = BitVec.ofNat 8 (v.toNat >>> 7) := by
  have hlt : v.toNat >>> 7 < 2 ^ 7 := by rw [Nat.shiftRight_eq_div_pow]; omega
  apply BitVec.eq_of_toNat_eq
  rw [fieldByte_toNat, u14Msb_eq_ofNat, BitVec.toNat_ofNat, BitVec.toNat_ofNat]
  omega

/-- ENCODE's packet is the row of R110, padded with zeros (R281). -/
theorem encodesTo_encodeRow (m : Message) :
    encodesTo m (encodeRow m).1 ((encodeRow m).2.getD 0 0) ((encodeRow m).2.getD 1 0) ((encodeRow m).2.getD 2 0) :=
  fun _ _ => rfl

/-! ### The shapes of variant, in both directions -/

/-- A channel-voice packet is in its variant's row whatever the channel. -/
theorem decodesTo_voice (v : Variant) {nibble cable ch : U4} {b1 b2 : Byte} {row : Instr}
    {m : DataPolicy → Option Message} (hkey : nibble = v.cin ∧ v.keyByte = .kind nibble)
    (hend : ∀ p, structureOk v p = true)
    (hrow : ∀ s, exec row s = decodeRow v { cable, cin := nibble, b0 := nibble ++ ch, b1, b2 } s)
    (hm : ∀ policy, readMessage policy v { cable, cin := nibble, b0 := voiceByte nibble ch, b1, b2 } = m policy) :
    decodesTo row { cable, cin := nibble, b0 := voiceByte nibble ch, b1, b2 } m := by
  obtain ⟨hcin, hkind⟩ := hkey
  exact decodesTo_of_matches (append_eq_voiceByte nibble ch ▸ hrow)
    ⟨hcin, hkind ▸ highNibble_voiceByte nibble ch, hend _⟩ hm

/-! The hypotheses of the four shapes are the variant's entries in the key, ENCODE, DECODE and the dispatch; for a named
variant each is read off its table by `rfl`, so they are filled in where the shape is used. -/

/-- A channel-voice variant with two fields. -/
theorem voiceTwo_of_row (v : Variant) {nibble : U4} {f : U4 → U7 → U7 → Message} {row : U4 → U4 → Byte → Byte → Instr}
    (hkey : nibble = v.cin ∧ v.keyByte = .kind nibble := by exact ⟨rfl, rfl⟩)
    (hend : ∀ p, structureOk v p = true := by intros; rfl)
    (henc : ∀ ch a b, encodeRow (f ch a b) = (nibble, [nibble ++ ch, fieldByte a, fieldByte b]) := by intros; rfl)
    (hread : ∀ policy p, readMessage policy v p = readTwo policy (f (lowNibble p.b0)) p.b1 p.b2 := by intros; rfl)
    (hrow : ∀ cable ch b1 b2 s,
      exec (row cable ch b1 b2) s = decodeRow v { cable, cin := nibble, b0 := nibble ++ ch, b1, b2 } s := by
        intros; rfl) :
    voiceTwo nibble f row := by
  intro ch
  refine ⟨fun a b => ?_, fun cable b1 b2 => decodesTo_voice v hkey hend (hrow cable ch b1 b2) fun policy => ?_⟩
  · have h := encodesTo_encodeRow (f ch a b)
    rwa [henc, append_eq_voiceByte, ← field_eq_fieldByte, ← field_eq_fieldByte] at h
  · rw [hread, readTwo_eq_bothRead, lowNibble_voiceByte]

/-- A channel-voice variant with one field. -/
theorem voiceOne_of_row (v : Variant) {nibble : U4} {f : U4 → U7 → Message} {row : U4 → U4 → Byte → Byte → Instr}
    (hkey : nibble = v.cin ∧ v.keyByte = .kind nibble := by exact ⟨rfl, rfl⟩)
    (hend : ∀ p, structureOk v p = true := by intros; rfl)
    (henc : ∀ ch a, encodeRow (f ch a) = (nibble, [nibble ++ ch, fieldByte a]) := by intros; rfl)
    (hread : ∀ policy p, readMessage policy v p = readOne policy (f (lowNibble p.b0)) p.b1 := by intros; rfl)
    (hrow : ∀ cable ch b1 b2 s,
      exec (row cable ch b1 b2) s = decodeRow v { cable, cin := nibble, b0 := nibble ++ ch, b1, b2 } s := by
        intros; rfl) :
    voiceOne nibble f row := by
  intro ch
  refine ⟨fun a => ?_, fun cable b1 b2 => decodesTo_voice v hkey hend (hrow cable ch b1 b2) fun policy => ?_⟩
  · have h := encodesTo_encodeRow (f ch a)
    rwa [henc, append_eq_voiceByte, ← field_eq_fieldByte] at h
  · rw [hread, readOne_eq_map, lowNibble_voiceByte]

/-- A system-common variant with one field. -/
theorem commonOne_of_row (v : Variant) {cin : U4} {b0 : Byte} {f : U7 → Message} {row : U4 → Byte → Byte → Instr}
    (hkey : cin = v.cin ∧ v.keyByte = .status b0 := by exact ⟨rfl, rfl⟩)
    (hend : ∀ p, structureOk v p = true := by intros; rfl)
    (henc : ∀ a, encodeRow (f a) = (cin, [b0, fieldByte a]) := by intros; rfl)
    (hread : ∀ policy p, readMessage policy v p = readOne policy f p.b1 := by intros; rfl)
    (hrow : ∀ cable b1 b2 s, exec (row cable b1 b2) s = decodeRow v { cable, cin, b0, b1, b2 } s := by intros; rfl) :
    commonOne cin b0 f row := by
  obtain ⟨hcin, hstatus⟩ := hkey
  refine ⟨fun a => ?_, fun cable b1 b2 =>
    decodesTo_of_matches (hrow cable b1 b2) ⟨hcin, hstatus ▸ rfl, hend _⟩ fun policy => ?_⟩
  · have h := encodesTo_encodeRow (f a)
    rwa [henc, ← field_eq_fieldByte] at h
  · rw [hread, readOne_eq_map]

/-- A variant whose status stands alone. -/
theorem bare_of_row (v : Variant) {cin : U4} {b0 : Byte} {m : Message} {row : U4 → Byte → Byte → Instr}
    (hkey : cin = v.cin ∧ v.keyByte = .status b0 := by exact ⟨rfl, rfl⟩)
    (hend : ∀ p, structureOk v p = true := by intros; rfl)
    (henc : encodeRow m = (cin, [b0]) := by rfl) (hread : ∀ policy p, readMessage policy v p = some m := by intros; rfl)
    (hrow : ∀ cable b1 b2 s, exec (row cable b1 b2) s = decodeRow v { cable, cin, b0, b1, b2 } s := by intros; rfl) :
    bare cin b0 m row := by
  obtain ⟨hcin, hstatus⟩ := hkey
  refine ⟨?_, fun cable b1 b2 =>
    decodesTo_of_matches (hrow cable b1 b2) ⟨hcin, hstatus ▸ rfl, hend _⟩ fun policy => hread policy _⟩
  have h := encodesTo_encodeRow m
  rwa [henc] at h

/-! ### The rows of R112 by framing code and by status -/

theorem keyByte_of_voice_cin {v : Variant} : 0x8 ≤ v.cin.toNat → v.cin.toNat ≤ 0xE → v.keyByte = .kind v.cin := by
  cases v <;> decide

theorem keyByte_of_sysex_cin {v : Variant} :
    v.cin = 0x4 ∨ v.cin = 0x6 ∨ v.cin = 0x7 → v.keyByte = .data ∨ v.keyByte = .status 0xF0 := by
  cases v <;> decide

theorem keyByte_ne_kind_F (v : Variant) : v.keyByte ≠ .kind 0xF := by
  cases v <;> decide

/-- A byte of 0xF0 or more selects a variant only as its status byte: no kind nibble of R112 is 0xF. -/
theorem keyByte_of_system {v : Variant} {b : Byte} (hb : 0xF0 ≤ b.toNat) (h : KeyMatches v.keyByte b) :
    v.keyByte = .status b := by
  cases hk : v.keyByte <;> rw [hk] at h
  case kind nibble =>
    have hdiv : b.toNat / 16 = 15 := by omega
    have hhigh : nibble = 0xF := h.symm.trans (BitVec.eq_of_toNat_eq ((highNibble_toNat_eq_div b).trans hdiv))
    exact absurd (hhigh ▸ hk) (keyByte_ne_kind_F v)
  case status c => exact h ▸ rfl
  case data =>
    have hlt : b.toNat < 0x80 := h
    omega

theorem cin_of_realtime_status {v : Variant} {b : Byte} (h : v.keyByte = .status b) (hb : 0xF8 ≤ b.toNat) :
    v.cin = 0xF := by
  cases v <;> cases h <;> revert hb <;> decide

theorem endMask_of_sysex_cin {v : Variant} :
    (v.cin = 0x6 → v.endMask = (0xFF, 0)) ∧ (v.cin = 0x7 → v.endMask = (0, 0xFF)) := by
  cases v <;> decide

/-- A system status byte outside the framing code of its rows is BadPacket. -/
theorem rejected_of_system {p : Packet} {b : Byte} {cin : U4} (hb0 : p.b0 = b) (hb : 0xF0 ≤ b.toNat) (hne : p.cin ≠ cin)
    (hcin : ∀ v : Variant, v.keyByte = .status b → v.cin = cin) : rejected p :=
  rejected_of_no_match fun v ⟨hv, hmatch, _⟩ => hne (hv.trans (hcin v (keyByte_of_system hb (hb0 ▸ hmatch))))

/-! ### The obligations -/

/-- Settles O29: a packet that matched a variant's row would match its pattern. -/
theorem unmatchedPacketsAreBad : Obligations.UnmatchedPacketsAreBad := fun mode p =>
  ⟨decode_command_of_read mode rfl (onePacket_fields _ p), fun h =>
    rejected_of_no_match fun v hv => h v.pattern (pattern_mem_packetRows v) (packetWord_and_pattern hv)⟩

/-- Settles O25: the two shapes of channel-voice variant, PitchBend's pair, and the kind nibble a code of 0x8 to 0xE
asks for. -/
theorem channelVoiceCodec : Obligations.ChannelVoiceCodec := by
  refine ⟨voiceTwo_of_row .noteOff,
    voiceTwo_of_row .noteOn,
    voiceTwo_of_row .notePressure,
    voiceTwo_of_row .controlChange,
    voiceOne_of_row .programChange,
    voiceOne_of_row .channelPressure,
    fun ch value => ?_, fun cable ch b1 b2 => ?_, fun p hl hu hne => ?_⟩
  · rw [← append_eq_voiceByte, ← fieldByte_u14Lsb, ← fieldByte_u14Msb]
    exact encodesTo_encodeRow (.pitchBend ch value)
  · refine decodesTo_voice .pitchBend ⟨rfl, rfl⟩ (fun _ => rfl) (fun _ => rfl) fun policy => ?_
    change readBend (lowNibble (voiceByte 0xE ch)) b1 b2 = _
    rw [lowNibble_voiceByte, readBend_eq_ite]
  · refine rejected_of_no_match fun v ⟨hcin, hb0, _⟩ => hne ?_
    rw [hcin] at hl hu
    rw [keyByte_of_voice_cin hl hu] at hb0
    rw [hcin, ← highNibble_toNat, hb0]

/-- Settles O26: each of the four status bytes has its rows in one framing code, and 0xFF in 0xF alone. -/
theorem systemCommonCodec : Obligations.SystemCommonCodec := by
  refine ⟨commonOne_of_row .timeCodeQuarterFrame, ⟨fun a b => ?_, fun cable b1 b2 => ?_⟩, commonOne_of_row .songSelect,
    bare_of_row .tuneRequest, fun p h => ?_, fun p hcin hb0 => ?_⟩
  · rw [field_eq_fieldByte, field_eq_fieldByte]
    exact encodesTo_encodeRow (.songPositionPointer a b)
  · exact decodesTo_of_matches (v := .songPositionPointer) (fun _ => rfl) ⟨rfl, rfl, rfl⟩ fun policy =>
      readTwo_eq_bothRead policy _ b1 b2
  · rcases h with ⟨hb0, hne⟩ | ⟨hb0, hne⟩ | ⟨hb0, hne⟩ | ⟨hb0, hne⟩ <;>
      exact rejected_of_system hb0 (by decide) hne fun v => by cases v <;> decide
  · exact rejected_of_system (cin := 0xF) hb0 (by decide) (hcin ▸ by decide) fun _ hv =>
      cin_of_realtime_status hv (by decide)

/-- Settles O27: seven bare variants, whose status bytes have their rows in framing code 0xF. -/
theorem realtimeCodec : Obligations.RealtimeCodec :=
  ⟨bare_of_row .timingClock, bare_of_row .measureEnd, bare_of_row .start, bare_of_row .continue_, bare_of_row .stop,
    bare_of_row .activeSensing, bare_of_row .systemReset, fun _ hb hne =>
      rejected_of_system rfl (Nat.le_trans (by decide) hb) hne fun _ hv => cin_of_realtime_status hv hb⟩

/-- Settles O28: the fields of each fragment, and what the codes 0x4, 0x6 and 0x7 ask of b0 and of the 0xF7. -/
theorem sysexFragmentCodec : Obligations.SysexFragmentCodec := by
  simp only [Obligations.SysexFragmentCodec, field_eq_fieldByte]
  refine ⟨⟨fun a b => encodesTo_encodeRow (.sysexBegin a b), fun cable b1 b2 => ?_⟩,
    ⟨fun a b c => encodesTo_encodeRow (.sysexCont a b c), fun cable d0 b1 b2 => ?_⟩,
    bare_of_row .sysexEnd,
    ⟨fun a => encodesTo_encodeRow (.sysexEnd1 a), fun cable d0 b2 => ?_⟩,
    ⟨fun a b => encodesTo_encodeRow (.sysexEnd2 a b), fun cable d0 b1 => ?_⟩,
    ⟨encodesTo_encodeRow .sysexEmpty, fun cable b2 => ?_⟩,
    ⟨fun a => encodesTo_encodeRow (.sysexSingleByte a), fun cable b1 => ?_⟩, fun p hcin hb hne => ?_, fun p h => ?_⟩
  · exact decodesTo_of_matches (v := .sysexBegin) (fun _ => rfl) ⟨rfl, rfl, rfl⟩ fun policy =>
      readTwo_eq_bothRead policy _ b1 b2
  · refine decodesTo_of_matches (v := .sysexCont) (fun _ => rfl) ⟨rfl, fieldByte_lt d0, rfl⟩ fun policy => ?_
    rw [← readTwo_eq_bothRead, readMessage, bodyField_fieldByte]
  · refine decodesTo_of_matches (v := .sysexEnd1) (fun _ => rfl) ⟨rfl, fieldByte_lt d0, rfl⟩ fun policy => ?_
    rw [readMessage, bodyField_fieldByte]
  · refine decodesTo_of_matches (v := .sysexEnd2) (fun _ => rfl) ⟨rfl, fieldByte_lt d0, rfl⟩ fun policy => ?_
    rw [← readOne_eq_map, readMessage, bodyField_fieldByte]
  · exact decodesTo_of_matches (v := .sysexEmpty) (fun _ => rfl) ⟨rfl, rfl, rfl⟩ fun _ => rfl
  · exact decodesTo_of_matches (v := .sysexSingleByte) (fun _ => rfl) ⟨rfl, rfl, rfl⟩ fun policy =>
      readOne_eq_map policy _ b1
  · refine rejected_of_no_match fun v ⟨hv, hb0, _⟩ => ?_
    rw [hv] at hcin
    rcases keyByte_of_sysex_cin hcin with hk | hk <;> rw [hk] at hb0
    · exact absurd hb0 (Nat.not_lt.mpr hb)
    · exact hne hb0
  · refine rejected_of_no_match fun v ⟨hv, _, hend⟩ => ?_
    obtain ⟨hb1, hb2⟩ := and_endMask hend
    rcases h with ⟨hcin, hne⟩ | ⟨hcin, hne⟩ <;> rw [hv] at hcin
    · rw [endMask_of_sysex_cin.1 hcin] at hb1
      exact hne (BitVec.and_allOnes.symm.trans hb1)
    · rw [endMask_of_sysex_cin.2 hcin] at hb2
      exact hne (BitVec.and_allOnes.symm.trans hb2)

end Sys2Proof.Machine
end

section
/-! Sysex capture (spec/45_sysex_capture.md): APPEND as one next state (R341), on a cleared buffer and on an open run;
each fragment is then one use of it. -/

open Sys2Proof.Stated

namespace Sys2Proof.Machine

/-- APPEND empties the buffer with BufferOverflow or adds all the bytes (R341). -/
theorem captureAppend_eq_next_ite (bytes : List Byte) (result : Nat → CaptureResult) (s : State) :
    captureAppend bytes result s =
      .next (if s.scBuf.length + bytes.length > s.params.captureCapacity then
          (s.setScBuf []).setOutput (some (.err .bufferOverflow))
        else (s.setScBuf (s.scBuf ++ bytes)).setOutput
          (some (.ok (.capture (result (s.scBuf.length + bytes.length)))))) := by
  rw [captureAppend_eq]
  split <;> rfl

/-- A fragment that clears the buffer first is measured against the capacity by its own bytes alone (R342, R347). -/
theorem captureAppend_cleared (bytes : List Byte) (result : Nat → CaptureResult) (s : State) :
    captureAppend bytes result (s.setScBuf []) =
      .next (if s.params.captureCapacity < bytes.length then (s.setScBuf []).setOutput (some (.err .bufferOverflow))
        else (s.setScBuf bytes).setOutput (some (.ok (.capture (result bytes.length))))) := by
  simp only [captureAppend_eq_next_ite, State.setScBuf_scBuf, State.setScBuf_params, List.length_nil, Nat.zero_add]
  rfl

/-- A fragment that continues a run raises its error `e` where none is open, before the capacity is looked at (R343,
R405). -/
theorem captureAppend_openRun (e : ErrorKind) (bytes : List Byte) (result : Nat → CaptureResult) (s : State) :
    (if s.scBuf.length = 0 then raise e s else captureAppend bytes result s) =
      .next (if s.scBuf = [] then s.setOutput (some (.err e))
        else if s.scBuf.length + bytes.length > s.params.captureCapacity then
          (s.setScBuf []).setOutput (some (.err .bufferOverflow))
        else (s.setScBuf (s.scBuf ++ bytes)).setOutput
          (some (.ok (.capture (result (s.scBuf.length + bytes.length)))))) := by
  simp only [List.length_eq_zero_iff, captureAppend_eq_next_ite]
  split <;> rfl

/-- SysexEnd answers by emptiness and keeps the buffer (R344). -/
theorem exec_captureStep_sysexEnd (s : State) :
    exec (.captureStep .sysexEnd) s =
      .next (s.setOutput (some (if s.scBuf = [] then .err (.spuriousSysexEnd none)
        else .ok (.capture (.captured s.scBuf.length))))) := by
  change captureEnd s = _
  simp only [captureEnd, List.length_eq_zero_iff]
  split <;> rfl

/-- Every variant that is no sysex fragment resets the unit (R349). -/
theorem exec_captureStep_of_not_fragment {m : Message} (h : isSysexFragment m = false) (s : State) :
    exec (.captureStep m) s = captureOther s := by
  cases m with
  | sysexBegin | sysexCont | sysexEnd | sysexEnd1 | sysexEnd2 | sysexEmpty | sysexSingleByte => cases h
  | _ => rfl

/-! ### The obligations -/

/-- Settles O32: SysexBegin and SysexSingleByte are an APPEND to the cleared buffer, SysexEmpty the clear alone. -/
theorem runsOpenOnAClearedBuffer : Obligations.RunsOpenOnAClearedBuffer := by
  intro s d0 d1
  rw [field_eq_fieldByte, field_eq_fieldByte]
  exact ⟨captureAppend_cleared [fieldByte d0, fieldByte d1] (fun _ => .pending) s,
    captureAppend_cleared [fieldByte d0] (fun _ => .captured 1) s, rfl⟩

/-- Settles O33: SysexCont is an APPEND to an open run. -/
theorem continuationAppendsToAnOpenRun : Obligations.ContinuationAppendsToAnOpenRun := by
  intro s d0 d1 d2
  rw [field_eq_fieldByte, field_eq_fieldByte, field_eq_fieldByte]
  exact captureAppend_openRun _ _ _ s

/-- Settles O34: SysexEnd only answers; the other two are an APPEND to an open run. -/
theorem endFragmentsCompleteTheRun : Obligations.EndFragmentsCompleteTheRun := by
  intro s d0 d1
  rw [field_eq_fieldByte, field_eq_fieldByte]
  exact ⟨exec_captureStep_sysexEnd s, captureAppend_openRun _ _ _ s, captureAppend_openRun _ _ _ s⟩

/-- Settles O35: the message is read back from its operand, and each variant outside the fragments resets the unit. -/
theorem otherMessagesResetTheCapture : Obligations.OtherMessagesResetTheCapture := fun mode m s =>
  ⟨decode_command_of_read mode rfl (oneMessage_messageOperand _ m), fun h => exec_captureStep_of_not_fragment h s⟩

/-- Settles O36: the reads at the valid indices give the whole buffer, so none of them faults. -/
theorem captureReadReturnsTheBuffer : Obligations.CaptureReadReturnsTheBuffer := fun mode s =>
  ⟨decode_command_of_read mode rfl rfl, execCaptureRead_eq s⟩

end Sys2Proof.Machine
end

section
/-! The token language (spec/46_sysex_tokens.md): what flattening and framing give, by token and by index; what GEN_NEXT
gives where a message is left; MATCH's walk token by token. -/

open Sys2Proof.Stated

namespace Sys2Proof

theorem programCable_programOperand (f : List Token → U4 → Instr) (program : List Token) (cable : U4) :
    programCable f [programOperand program, .nat cable.toNat] = some (f program cable) := by
  simp [programCable, programOperand]

theorem bytesProgram_programOperand (f : List Byte → List Token → Instr) (buf : List Byte) (program : List Token) :
    bytesProgram f [.bytes (buf.map BitVec.toNat), programOperand program] = some (f buf program) := by
  simp [bytesProgram, programOperand]

end Sys2Proof

namespace Sys2Proof.Machine

/-! ### Flattening -/

theorem generated_eq_tokenBytes : generated = tokenBytes := by
  funext t
  cases t with
  | cap f => cases f <;> rfl
  | _ => rfl

theorem flatMap_generated (program : List Token) : program.flatMap generated = flatten program := by
  rw [generated_eq_tokenBytes, flatten_eq_flatMap]

theorem exec_tokenFlatten_of_wellFormed {program : List Token} (h : programWellFormed program = true) (s : State) :
    exec (.tokenFlatten program) s = .next (s.setOutput (some (.ok (.bytes (flatten program))))) :=
  if_pos h

theorem exec_tokenFlatten_of_illFormed {program : List Token} (h : programWellFormed program = false) (s : State) :
    exec (.tokenFlatten program) s = .refused .illFormedProgram :=
  if_neg (ne_true_of_eq_false h)

/-! ### Framing by index -/

theorem bodyAt_cons_zero (b : Byte) (d : List Byte) : bodyAt (b :: d) 0 = bodyField b := BitVec.ofNat_toNat 7 b

theorem bodyAt_cons_succ (b : Byte) (d : List Byte) (i : Nat) : bodyAt (b :: d) (i + 1) = bodyAt d i := rfl

/-- The end a run selects depends on what is left from the index on. -/
theorem runEnd_cons_succ (b : Byte) (d : List Byte) (i : Nat) : runEnd (b :: d) (i + 1) = runEnd d i := by
  simp only [runEnd, List.length_cons, Nat.add_sub_add_right, bodyAt_cons_succ]

/-- The SysexCont that holds the three bytes of `d` from index `i` on (R372). -/
def contAt (d : List Byte) (i : Nat) : Message := .sysexCont (bodyAt d i) (bodyAt d (i + 1)) (bodyAt d (i + 2))

theorem contAt_cons_succ (b : Byte) (d : List Byte) (i : Nat) : contAt (b :: d) (i + 1) = contAt d i := rfl

/-- The fragments after SysexBegin, by index: one SysexCont for every three bytes, then the end (R372). -/
theorem frameRest_map_bodyField : ∀ d : List Byte,
    frameRest (d.map bodyField) =
      (List.range (d.length / 3)).map (fun j => contAt d (3 * j)) ++ [runEnd d (3 * (d.length / 3))]
  | [] => rfl
  | [a] => by simp [frameRest, runEnd, bodyAt_cons_zero]
  | [a, b] => by simp [frameRest, runEnd, bodyAt_cons_zero, bodyAt_cons_succ]
  | a :: b :: c :: rest => by
    have hlen : (a :: b :: c :: rest).length / 3 = rest.length / 3 + 1 := by simp only [List.length_cons]; omega
    have hfirst : contAt (a :: b :: c :: rest) 0 = .sysexCont (bodyField a) (bodyField b) (bodyField c) := by
      simp only [contAt, bodyAt_cons_succ, bodyAt_cons_zero]
    have hend : runEnd (a :: b :: c :: rest) (3 * (rest.length / 3 + 1)) = runEnd rest (3 * (rest.length / 3)) := by
      rw [Nat.mul_succ, runEnd_cons_succ, runEnd_cons_succ, runEnd_cons_succ]
    change Message.sysexCont (bodyField a) (bodyField b) (bodyField c) :: frameRest (rest.map bodyField) = _
    rw [frameRest_map_bodyField rest, hlen, hend, List.range_succ_eq_map, List.map_cons, Nat.mul_zero, hfirst,
      List.map_map]
    rfl

/-- The recursive cut is the cut by index: the first two bytes shift every index of the rest by two. -/
theorem frame_eq_framed (d : List Byte) : frame d = framed d := by
  match d with
  | [] => rfl
  | [a] => exact congrArg (fun x => [Message.sysexSingleByte x]) (bodyAt_cons_zero a []).symm
  | a :: b :: rest =>
    have hbegin : Message.sysexBegin (bodyField a) (bodyField b) =
        .sysexBegin (bodyAt (a :: b :: rest) 0) (bodyAt (a :: b :: rest) 1) := by
      rw [bodyAt_cons_succ, bodyAt_cons_zero, bodyAt_cons_zero]
    have hend : runEnd (a :: b :: rest) (3 * (rest.length / 3) + 2) = runEnd rest (3 * (rest.length / 3)) := by
      rw [runEnd_cons_succ, runEnd_cons_succ]
    change Message.sysexBegin (bodyField a) (bodyField b) :: frameRest (rest.map bodyField) = _
    rw [frameRest_map_bodyField, hbegin, ← hend]
    rfl

theorem all_isBodyByte_iff {d : List Byte} : d.all isBodyByte = true ↔ ∀ b ∈ d, b.toNat < 0x80 := by
  simp [isBodyByte]

theorem exec_tokenFrame_of_body {d : List Byte} (h : ∀ b ∈ d, b.toNat < 0x80) (s : State) :
    exec (.tokenFrame d) s = .next (s.setOutput (some (.ok (.messages (frame d))))) :=
  if_pos (all_isBodyByte_iff.mpr h)

theorem exec_tokenFrame_of_not_body {d : List Byte} (h : ∃ b ∈ d, 0x80 ≤ b.toNat) (s : State) :
    exec (.tokenFrame d) s = .refused .frameByte := by
  obtain ⟨b, hb, hhigh⟩ := h
  exact if_neg fun hall => Nat.not_lt.mpr hhigh (all_isBodyByte_iff.mp hall b hb)

/-! ### The generator -/

theorem exec_genStart_of_wellFormed {program : List Token} (h : programWellFormed program = true) (cable : U4)
    (s : State) :
    exec (.genStart program cable) s =
      .next ((((s.setTgMsgs (frame (flatten program))).setTgCable cable).setTgK 0).setOutput (some (.ok .unit))) :=
  if_pos h

theorem exec_genStart_of_illFormed {program : List Token} (h : programWellFormed program = false) (cable : U4)
    (s : State) :
    exec (.genStart program cable) s = .refused .illFormedProgram :=
  if_neg (ne_true_of_eq_false h)

/-- A packet that ENCODE is said to give is the one the generator builds (R281). -/
theorem packetOfMessage_of_encodesTo {m : Message} {cin : U4} {b0 b1 b2 : Byte} (h : encodesTo m cin b0 b1 b2)
    (cable : U4) : packetOfMessage cable m = { cable, cin, b0, b1, b2 } := by
  have hout : some (OpResult.ok (.packet (packetOfMessage cable m))) =
      some (.ok (.packet { cable, cin, b0, b1, b2 })) :=
    congrArg State.output (Host.Outcome.next.inj (h cable State.reset))
  simpa using hout

/-- At the end, and past it, GEN_NEXT answers nothing and keeps its place (R374). -/
theorem exec_genNext_of_none {s : State} (h : s.tgMsgs[s.tgK]? = none) :
    exec .genNext s = .next (s.setOutput silent) := by
  change execGenNext s = _
  rw [execGenNext, h]
  rfl

theorem exec_genNext_of_some {s : State} {m : Message} (h : s.tgMsgs[s.tgK]? = some m) :
    exec .genNext s =
      .next ((s.setTgK (s.tgK + 1)).setOutput (some (.ok (.optPacket (some (packetOfMessage s.tgCable m)))))) := by
  change execGenNext s = _
  rw [execGenNext, h]
  rfl

/-! ### The matcher -/

theorem getElem?_eq_some_iff_getD (buf : List Byte) (pos : Nat) (b : Byte) :
    buf[pos]? = some b ↔ ¬ (pos ≥ buf.length ∨ buf.getD pos 0 ≠ b) := by
  by_cases h : pos < buf.length
  · simp [h]
  · simp [h, Nat.not_lt.mp h]

/-- The rules' walk takes one step of the model's matcher per token (R377 to R380). -/
theorem walk_cons (buf : List Byte) (pos : Nat) (caps : List CaptureRecord) (t : Token) (ts : List Token) :
    walk buf pos caps (t :: ts) = (matchToken buf t { pos, caps }).bind fun w => walk buf w.pos w.caps ts := by
  cases t with
  | skip n =>
    simp only [walk, matchToken, gt_iff_lt]
    split <;> rfl
  | val b =>
    simp only [walk, matchToken, getElem?_eq_some_iff_getD, ite_not]
    split <;> rfl
  | seq bs =>
    have hfails : pos + bs.length > buf.length ∨ (buf.drop pos).take bs.length ≠ bs ↔
        ¬ (pos + bs.length ≤ buf.length ∧ (buf.drop pos).take bs.length = bs) := by
      rw [not_and_or, Nat.not_le]
    simp only [walk, matchToken, hfails, ite_not]
    split <;> rfl
  | cap f =>
    cases f with
    | bytes w =>
      simp only [walk, matchToken, gt_iff_lt]
      split <;> rfl
    | other _ => rfl

theorem matchTokens_cons (buf : List Byte) (t : Token) (ts : List Token) (w : MatchState) :
    matchTokens buf (t :: ts) w = (matchToken buf t w).bind (matchTokens buf ts) := by
  rw [matchTokens]
  cases matchToken buf t w <;> rfl

/-- The rules' walk is the model's, with the final check of R381 at its end. -/
theorem walk_eq_matchTokens_bind (buf : List Byte) (program : List Token) (w : MatchState) :
    walk buf w.pos w.caps program =
      (matchTokens buf program w).bind fun w => if w.pos = buf.length then some w.caps else none := by
  induction program generalizing w with
  | nil => rfl
  | cons t ts ih =>
    rw [walk_cons, matchTokens_cons, Option.bind_assoc]
    simp only [ih]

/-- MATCH raises NoMatch where the walk fails and returns its captures where it does not (R376). -/
theorem conclude_matchBuffer (buf : List Byte) (program : List Token) (s : State) :
    conclude ((matchBuffer buf program).map .records) s =
      .next (s.setOutput (some
        (match walk buf 0 [] program with
        | some caps => .ok (.records caps)
        | none => .err .noMatch))) := by
  rw [walk_eq_matchTokens_bind buf program { pos := 0, caps := [] }, matchBuffer]
  cases matchTokens buf program { pos := 0, caps := [] } with
  | none => rfl
  | some w =>
    by_cases h : w.pos = buf.length <;> simp only [h, Option.bind_some, ↓reduceIte] <;> rfl

theorem exec_matchProgram_of_wellFormed {program : List Token} (h : programWellFormed program = true) (buf : List Byte)
    (s : State) :
    exec (.matchProgram buf program) s = conclude ((matchBuffer buf program).map .records) s :=
  if_pos h

theorem exec_matchProgram_of_illFormed {program : List Token} (h : programWellFormed program = false) (buf : List Byte)
    (s : State) :
    exec (.matchProgram buf program) s = .refused .illFormedProgram :=
  if_neg (ne_true_of_eq_false h)

/-! ### The obligations -/

/-- Settles O39: the recursive cut of the model is the cut by index. -/
theorem frameCutsTheBodyInThrees : Obligations.FrameCutsTheBodyInThrees := fun mode d s =>
  ⟨decode_command_of_read mode rfl (oneBytes_map_toNat _ d),
    fun h => frame_eq_framed d ▸ exec_tokenFrame_of_body h s, fun h => exec_tokenFrame_of_not_body h s⟩

/-- Settles O40: the framed flat bytes of the program, by token and by index. -/
theorem generatorStartsOnTheFramedProgram : Obligations.GeneratorStartsOnTheFramedProgram := by
  intro mode program cable s
  rw [flatMap_generated, ← frame_eq_framed]
  exact ⟨decode_command_of_read mode rfl (programCable_programOperand _ program cable),
    fun h => exec_genStart_of_wellFormed h cable s, fun h => exec_genStart_of_illFormed h cable s⟩

/-- Settles O42: the model's walk is the rules' walk, token by token. -/
theorem matchWalksTheBuffer : Obligations.MatchWalksTheBuffer := fun mode buf program s =>
  ⟨decode_command_of_read mode rfl (bytesProgram_programOperand _ buf program),
    fun h => (exec_matchProgram_of_wellFormed h buf s).trans (conclude_matchBuffer buf program s),
    fun h => exec_matchProgram_of_illFormed h buf s⟩

/-- Settles O38: the model flattens token by token as R371's table has it. -/
theorem flattenGeneratesEachTokensBytes : Obligations.FlattenGeneratesEachTokensBytes := by
  intro mode program s
  rw [flatMap_generated]
  exact ⟨decode_command_of_read mode rfl (oneProgram_programOperand _ program),
    fun h => exec_tokenFlatten_of_wellFormed h s, fun h => exec_tokenFlatten_of_illFormed h s⟩

/-- Settles O41: at the end no message is left; before it the message at `TG.k` is encoded. -/
theorem generatorYieldsTheNextPacket : Obligations.GeneratorYieldsTheNextPacket := by
  intro mode s
  refine ⟨decode_command_of_read mode rfl rfl, fun hend => ?_, fun m cin b0 b1 b2 hm henc => ?_⟩
  · exact exec_genNext_of_none (List.getElem?_eq_none (Nat.le_of_eq hend.symm))
  · rw [← packetOfMessage_of_encodesTo henc]
    exact exec_genNext_of_some hm

end Sys2Proof.Machine
end

section
/-! The error state of each operation (spec/60_exceptions.md R402): what holds of an outcome whenever it is an error, by
the shared ends of an operation; then the error state of each unit, and of the dispatch. -/

open Sys2Proof.Stated

namespace Sys2Proof.Machine

/-! ### What holds where an operation fails -/

/-- Whenever the outcome is a next state whose output is an error, `Q` holds of the error and the state (R401). -/
def OnError (Q : ErrorKind → State → Prop) (r : StepOutcome) : Prop :=
  ∀ t e, r = .next t → t.output = some (.err e) → Q e t

section
variable {Q : ErrorKind → State → Prop}

theorem onError_finish (v : Value) (s : State) : OnError Q (finish v s) := by
  intro t e h hout
  rw [finish_next_iff.mp h] at hout
  cases hout

theorem onError_raise {e : ErrorKind} {s : State} (hq : Q e (s.setOutput (some (.err e)))) : OnError Q (raise e s) := by
  intro t e' h hout
  rw [raise_next_iff] at h
  subst h
  cases hout
  exact hq

theorem onError_refused (r : Refusal) : OnError Q (.refused r) := fun _ _ h => by cases h

theorem onError_fault (f : Fault) : OnError Q (.fault f) := fun _ _ h => by cases h

theorem onError_conclude {s : State} (hq : ∀ e, Q e (s.setOutput (some (.err e)))) (r : Except ErrorKind Value) :
    OnError Q (conclude r s) := by
  cases r with
  | ok v => exact onError_finish v s
  | error e => exact onError_raise (hq e)

theorem onError_ite {p : Prop} [Decidable p] {a b : StepOutcome} (ha : p → OnError Q a) (hb : ¬ p → OnError Q b) :
    OnError Q (if p then a else b) := by
  split
  · next h => exact ha h
  · next h => exact hb h

end

/-- The next state is `u` with the error as its output. -/
def Leaves (u : State) (e : ErrorKind) (t : State) : Prop := t = u.setOutput (some (.err e))

/-- An operation that ends in the state it started in, with a value or an error, leaves that state. -/
theorem conclude_leaves (r : Except ErrorKind Value) (s : State) : OnError (Leaves s) (conclude r s) :=
  onError_conclude (Q := Leaves s) (fun _ => rfl) r

/-- A packet row fails as DECODE does (R282). -/
theorem decodeRow_leaves (v : Variant) (p : Packet) (s : State) : OnError (Leaves s) (decodeRow v p s) :=
  conclude_leaves _ s

/-! ### The compressor, the generator and the capture reads -/

/-- RC_PACK has no error (R216). -/
theorem execRcPack_onError {Q : ErrorKind → State → Prop} (payload : List Byte) (s : State) :
    OnError Q (execRcPack payload s) := by
  cases payload with
  | nil => exact onError_refused _
  | cons first rest =>
    have hpack : OnError Q (packPayload first rest s) :=
      onError_ite (fun _ => onError_ite (fun _ => onError_finish _ _) fun _ => onError_finish _ _)
        fun _ => onError_finish _ _
    exact onError_ite (fun _ => hpack) fun _ => onError_refused _

/-- RC_SERIALIZE fails on the packet alone, before RC_PACK runs (R217). -/
theorem execRcSerialize_leaves (p : Packet) (s : State) : OnError (Leaves s) (execRcSerialize p s) := by
  unfold execRcSerialize
  split
  · exact onError_raise rfl
  · exact execRcPack_onError _ s

/-- GEN_NEXT has no error (R374). -/
theorem execGenNext_onError {Q : ErrorKind → State → Prop} (s : State) : OnError Q (execGenNext s) := by
  unfold execGenNext
  split <;> exact onError_finish _ _

/-- CAPTURE_READ has no error (R350). -/
theorem execCaptureRead_onError {Q : ErrorKind → State → Prop} (s : State) : OnError Q (execCaptureRead s) := by
  rw [execCaptureRead_eq]
  exact onError_finish _ s

/-! ### The parser: every error leaves `Idle` -/

theorem parseStatusByte_leaves_idle (b : Byte) (s : State) :
    OnError (Leaves (s.setPu .idle)) (parseStatusByte b s) := by
  unfold parseStatusByte
  split
  · exact onError_raise rfl
  · exact onError_ite (fun _ => onError_finish _ _) fun _ => onError_finish _ _

theorem parseDataByte_leaves_idle (b : Byte) (s : State) : OnError (Leaves (s.setPu .idle)) (parseDataByte b s) := by
  cases hpu : s.pu with
  | idle =>
    rw [parseDataByte_of_idle hpu]
    exact onError_raise rfl
  | awaitingData status collected =>
    rw [parseDataByte_of_awaitingData hpu, parseDataAwaiting]
    split
    · exact onError_raise rfl
    · exact onError_ite (fun _ => onError_finish _ _) fun _ => onError_finish _ _
  | inSysex collected =>
    rw [parseDataByte_of_inSysex hpu]
    exact onError_ite (fun _ => onError_finish _ _) fun _ => onError_finish _ _

/-- 0xF7 inside a run has no error (R243). -/
theorem parseSysexEnd_onError {Q : ErrorKind → State → Prop} (collected : List Byte) (s : State) :
    OnError Q (parseSysexEnd collected s) := by
  match collected with
  | [] | [_] | [_, _] => exact onError_finish _ _
  | _ :: _ :: _ :: _ => exact onError_fault _

theorem parseEndByte_leaves_idle (s : State) : OnError (Leaves (s.setPu .idle)) (parseEndByte s) := by
  cases hpu : s.pu with
  | idle =>
    rw [parseEndByte_of_not_inSysex (.inl hpu)]
    exact onError_raise rfl
  | awaitingData status collected =>
    rw [parseEndByte_of_not_inSysex (.inr ⟨status, collected, hpu⟩)]
    exact onError_raise rfl
  | inSysex collected =>
    rw [parseEndByte_of_inSysex hpu]
    exact parseSysexEnd_onError collected s

/-- PARSE_BYTE, along its dispatch (R240): a real-time byte and 0xF0 have no error. -/
theorem execParseByte_leaves_idle (b : Byte) (s : State) : OnError (Leaves (s.setPu .idle)) (execParseByte b s) :=
  onError_ite (fun _ => onError_finish _ _) fun _ =>
  onError_ite (fun _ => onError_finish _ _) fun _ =>
  onError_ite (fun _ => parseEndByte_leaves_idle s) fun _ =>
  onError_ite (fun _ => parseStatusByte_leaves_idle b s) fun _ => parseDataByte_leaves_idle b s

/-! ### The capture: every error leaves the empty buffer -/

/-- The buffer is empty after the error, and was before it unless the error is BufferOverflow. -/
def LeavesEmpty (s : State) (e : ErrorKind) (t : State) : Prop :=
  Leaves (s.setScBuf []) e t ∧ (e ≠ .bufferOverflow → s.scBuf = [])

/-- An error raised for want of an open run changes nothing, as the buffer is empty already (R343 to R346). -/
theorem raise_leavesEmpty {s : State} (h : s.scBuf.length = 0) (e : ErrorKind) :
    OnError (LeavesEmpty s) (raise e s) := by
  have hempty : s.scBuf = [] := List.length_eq_zero_iff.mp h
  have hsame : s.setScBuf [] = s := by rw [← hempty]; rfl
  exact onError_raise ⟨congrArg (fun u => State.setOutput u (some (.err e))) hsame.symm, fun _ => hempty⟩

/-- APPEND fails with BufferOverflow alone, and empties the buffer then (R341), whether or not the fragment cleared it
first. -/
theorem captureAppend_leavesEmpty {s u : State} (hu : u.setScBuf [] = s.setScBuf []) (bytes : List Byte)
    (result : Nat → CaptureResult) : OnError (LeavesEmpty s) (captureAppend bytes result u) := by
  rw [captureAppend_eq, hu]
  exact onError_ite (fun _ => onError_raise ⟨rfl, fun hne => absurd rfl hne⟩) fun _ => onError_finish _ _

theorem execCaptureStep_leavesEmpty (m : Message) (s : State) : OnError (LeavesEmpty s) (execCaptureStep m s) := by
  cases m with
  | sysexBegin | sysexSingleByte =>
    dsimp only [execCaptureStep]
    exact captureAppend_leavesEmpty (s := s) (u := s.setScBuf []) rfl _ _
  | sysexCont | sysexEnd1 | sysexEnd2 =>
    exact onError_ite (fun h => raise_leavesEmpty h _) fun _ => captureAppend_leavesEmpty rfl _ _
  | sysexEnd => exact onError_ite (fun h => raise_leavesEmpty h _) fun _ => onError_finish _ _
  | _ => exact onError_finish _ _

/-! ### The dispatch -/

/-- R402's table: the state an operation leaves when it fails, its output aside. -/
def errorState (i : Instr) (s : State) : State :=
  (s.setPu (if isParserInstr i then .idle else s.pu)).setScBuf
    (match i with
    | .captureStep _ => []
    | _ => s.scBuf)

theorem errorState_scBuf_of_ne {i : Instr} (h : ∀ m, i ≠ .captureStep m) (s : State) :
    (errorState i s).scBuf = s.scBuf := by
  cases i with
  | captureStep m => exact absurd rfl (h m)
  | _ => rfl

/-- Every instruction that fails leaves its error state: row by row, by the operation its meaning is. Where the row
fixes that operation's byte or variant, the arm is unfolded by name, lest the unifier evaluate it past the operation. -/
theorem exec_leaves_errorState (i : Instr) (s : State) : OnError (Leaves (errorState i s)) (exec i s) := by
  cases i with
  | captureStep m => exact fun t e h hout => (execCaptureStep_leavesEmpty m s t e h hout).1
  | parseByte b => exact execParseByte_leaves_idle b s
  | byteNoteOff | byteNoteOn | byteNotePressure | byteControlChange | byteProgramChange | byteChannelPressure
  | bytePitchBend | byteTimeCodeQuarterFrame | byteSongPositionPointer | byteSongSelect | byteUndefinedF4
  | byteUndefinedF5 | byteTuneRequest =>
    dsimp only [exec]
    exact parseStatusByte_leaves_idle _ s
  | byteSysexEndInSysex | byteSysexEndSpurious => exact parseEndByte_leaves_idle s
  | byteDataIdle | byteDataAwaitingData | byteDataInSysex => exact parseDataByte_leaves_idle _ s
  | rcPack payload => exact execRcPack_onError payload s
  | rcSerialize p => exact execRcSerialize_leaves p s
  | captureRead => exact execCaptureRead_onError s
  | genNext => exact execGenNext_onError s
  | toWide | packetMake | tokenFlatten | tokenFrame | genStart =>
    exact onError_ite (fun _ => onError_finish _ _) fun _ => onError_refused _
  | matchProgram => exact onError_ite (fun _ => conclude_leaves _ s) fun _ => onError_refused _
  | fromDirect | u14FromPair | channelFromExternal | cableFromInt | cinFromInt | packetPayload | classify
  | decodePacket => exact conclude_leaves _ s
  | pktNoteOff | pktNoteOn | pktNotePressure | pktControlChange | pktProgramChange
  | pktChannelPressure | pktPitchBend | pktTimeCodeQuarterFrame | pktSongSelect | pktSongPositionPointer
  | pktSysexBegin | pktSysexCont | pktTuneRequest | pktSysexEnd | pktSysexEmpty | pktSysexEnd1
  | pktSysexSingleByte | pktSysexEnd2 | pktTimingClock | pktMeasureEnd | pktStart | pktContinue | pktStop
  | pktActiveSensing | pktSystemReset =>
    dsimp only [exec]
    exact decodeRow_leaves _ _ s
  | cull | fill | u14ToPair | channelToExternal | packetFromWire | packetToWire | payloadLen | isData | isStatus
  | isChannelVoice | isRealtime | expectedLen | channelOf | rcReset | parserReset | encodeMessage | captureClear
  | genRestart | byteSysexStart | byteTimingClock | byteMeasureEnd | byteStart | byteContinue | byteStop
  | byteUndefinedFD | byteActiveSensing | byteSystemReset => exact onError_finish _ _

/-- Settles O52: the fields of the error state, and the capture's own row for the buffer before the error. -/
theorem errorsLeaveTheirErrorState : Obligations.ErrorsLeaveTheirErrorState := by
  intro i s t e hexec hout
  obtain rfl : t = (errorState i s).setOutput (some (.err e)) := exec_leaves_errorState i s t e hexec hout
  refine ⟨rfl, ?_, fun h => errorState_scBuf_of_ne h s, rfl, rfl, rfl, rfl⟩
  rintro m rfl
  exact ⟨rfl, (execCaptureStep_leavesEmpty m s _ e hexec hout).2⟩

end Sys2Proof.Machine
end

section
/-! The laws of the codec (spec/44_codec.md): the row of R112 that ENCODE's packet of a message is in, and what DECODE
reads there; then that a packet DECODE reads is ENCODE's, field by field. -/

open Sys2Proof.Stated

namespace Sys2Proof

/-- The variant of a message (R280). -/
def Message.variant : Message → Variant
  | .noteOff _ _ _ => .noteOff
  | .noteOn _ _ _ => .noteOn
  | .notePressure _ _ _ => .notePressure
  | .controlChange _ _ _ => .controlChange
  | .programChange _ _ => .programChange
  | .channelPressure _ _ => .channelPressure
  | .pitchBend _ _ => .pitchBend
  | .timeCodeQuarterFrame _ => .timeCodeQuarterFrame
  | .songPositionPointer _ _ => .songPositionPointer
  | .songSelect _ => .songSelect
  | .tuneRequest => .tuneRequest
  | .timingClock => .timingClock
  | .measureEnd => .measureEnd
  | .start => .start
  | .continue_ => .continue_
  | .stop => .stop
  | .activeSensing => .activeSensing
  | .systemReset => .systemReset
  | .sysexBegin _ _ => .sysexBegin
  | .sysexCont _ _ _ => .sysexCont
  | .sysexEnd => .sysexEnd
  | .sysexEnd1 _ => .sysexEnd1
  | .sysexEnd2 _ _ => .sysexEnd2
  | .sysexEmpty => .sysexEmpty
  | .sysexSingleByte _ => .sysexSingleByte

end Sys2Proof

namespace Sys2Proof.Machine

/-! ### DECODE of ENCODE -/

theorem highNibble_append (kind ch : U4) : highNibble (kind ++ ch) = kind := BitVec.extractLsb'_append_eq_left

theorem lowNibble_append (kind ch : U4) : lowNibble (kind ++ ch) = ch := BitVec.extractLsb'_append_eq_right

theorem d7_fieldByte (policy : DataPolicy) (d : U7) : d7 policy (fieldByte d) = some d := by
  rw [d7_eq_dataRead, dataRead, if_pos (fieldByte_lt d), fieldByte_toNat, BitVec.ofNat_toNat, BitVec.setWidth_eq]

theorem readOne_fieldByte (policy : DataPolicy) (f : U7 → Message) (a : U7) :
    readOne policy f (fieldByte a) = some (f a) := by
  rw [readOne, d7_fieldByte, Option.map_some]

theorem readTwo_fieldByte (policy : DataPolicy) (f : U7 → U7 → Message) (a b : U7) :
    readTwo policy f (fieldByte a) (fieldByte b) = some (f a b) := by
  simp only [readTwo, d7_fieldByte]

/-- The two halves of a 14-bit value are its quotient and remainder by 2^7 (R72). -/
theorem u14_halves (v : U14) : (u14Msb v).toNat <<< 7 ||| (u14Lsb v).toNat = v.toNat := by
  have hmsb : (u14Msb v).toNat = v.toNat / 2 ^ 7 := by
    rw [u14Msb_eq_ofNat, BitVec.toNat_ofNat, Nat.shiftRight_eq_div_pow]
    omega
  have hlsb : (u14Lsb v).toNat = v.toNat % 2 ^ 7 := by simp [u14Lsb]
  rw [← Nat.shiftLeft_add_eq_or_of_lt (u14Lsb v).isLt, Nat.shiftLeft_eq, hmsb, hlsb]
  omega

theorem readBend_fieldByte (ch : U4) (v : U14) :
    readBend ch (fieldByte (u14Lsb v)) (fieldByte (u14Msb v)) = some (.pitchBend ch v) := by
  have hlsb := fieldByte_lt (u14Lsb v)
  have hmsb := fieldByte_lt (u14Msb v)
  rw [readBend_eq_ite, if_neg (by omega), fieldByte_toNat, fieldByte_toNat, u14_halves, BitVec.ofNat_toNat,
    BitVec.setWidth_eq]

/-- ENCODE's packet is in the row of its message's variant (R112). -/
theorem matches_packetOfMessage (cable : U4) (m : Message) : Matches m.variant (packetOfMessage cable m) := by
  cases m with
  | noteOff ch | noteOn ch | notePressure ch | controlChange ch | programChange ch | channelPressure ch
  | pitchBend ch => exact ⟨rfl, highNibble_append _ ch, rfl⟩
  | sysexCont d0 | sysexEnd1 d0 | sysexEnd2 d0 => exact ⟨rfl, fieldByte_lt d0, rfl⟩
  | _ => exact ⟨rfl, rfl, rfl⟩

/-- The fields of ENCODE's packet are the message's (R110). -/
theorem readMessage_packetOfMessage (policy : DataPolicy) (cable : U4) (m : Message) :
    readMessage policy m.variant (packetOfMessage cable m) = some m := by
  cases m <;>
    simp only [Message.variant, packetOfMessage, makePacket, encodeRow, readMessage, List.getD_cons_zero,
      List.getD_cons_succ, readOne_fieldByte, readTwo_fieldByte, readBend_fieldByte, lowNibble_append,
      bodyField_fieldByte]

/-- DECODE reads ENCODE's packet as its message, in every state. -/
theorem exec_decodePacket_packetOfMessage (cable : U4) (m : Message) (s : State) :
    exec (.decodePacket (packetOfMessage cable m)) s = .next (s.setOutput (some (.ok (.message m)))) := by
  have hrow := matches_packetOfMessage cable m
  rw [exec_decodePacket_of_matches hrow, decodeRow_of_matches hrow, readMessage_packetOfMessage]
  rfl

/-! ### ENCODE of DECODE -/

/-- Where DECODE reads a message, the packet is in some variant's row and its fields are the message's (R282). -/
theorem matches_of_exec_decodePacket {p : Packet} {m : Message} {s : State}
    (h : exec (.decodePacket p) s = .next (s.setOutput (some (.ok (.message m))))) :
    ∃ v, Matches v p ∧ readMessage s.params.decodeDataPolicy v p = some m := by
  by_cases hrow : ∃ v, Matches v p
  · obtain ⟨v, hv⟩ := hrow
    rw [exec_decodePacket_of_matches hv, decodeRow_of_matches hv] at h
    have hout := congrArg State.output (Host.Outcome.next.inj h)
    refine ⟨v, hv, ?_⟩
    cases hread : readMessage s.params.decodeDataPolicy v p <;> rw [hread] at hout <;> cases hout
    rfl
  · rw [rejected_of_no_match (not_exists.mp hrow) s] at h
    cases congrArg State.output (Host.Outcome.next.inj h)

/-- A byte read as a data field carries that field, unless `Cull` masked it (R283). -/
theorem fieldByte_of_d7 {policy : DataPolicy} {x : Byte} {a : U7} (h : d7 policy x = some a)
    (hcull : policy = .cull → x.toNat < 0x80) : fieldByte a = x := by
  have hlt : x.toNat < 0x80 := by
    cases policy with
    | cull => exact hcull rfl
    | reject =>
      by_contra hge
      simp [d7, hge] at h
  rw [d7_eq_dataRead, dataRead, if_pos hlt, Option.some.injEq] at h
  apply BitVec.eq_of_toNat_eq
  rw [fieldByte_toNat, ← h, BitVec.toNat_ofNat]
  omega

/-- Under `Cull` every one of these bytes is below 0x80. -/
def DataBytes (policy : DataPolicy) (bytes : List Byte) : Prop := policy = .cull → ∀ b ∈ bytes, b.toNat < 0x80

theorem readOne_some {policy : DataPolicy} {f : U7 → Message} {x : Byte} {m : Message}
    (h : readOne policy f x = some m) : ∃ a, m = f a ∧ (DataBytes policy [x] → fieldByte a = x) := by
  obtain ⟨a, ha, rfl⟩ := Option.map_eq_some_iff.mp h
  exact ⟨a, rfl, fun hdata => fieldByte_of_d7 ha fun hcull => hdata hcull x (by simp)⟩

theorem readTwo_some {policy : DataPolicy} {f : U7 → U7 → Message} {x y : Byte} {m : Message}
    (h : readTwo policy f x y = some m) :
    ∃ a b, m = f a b ∧ (DataBytes policy [x, y] → fieldByte a = x ∧ fieldByte b = y) := by
  unfold readTwo at h
  split at h
  next a b ha hb =>
    cases h
    exact ⟨a, b, rfl, fun hdata => ⟨fieldByte_of_d7 ha fun hcull => hdata hcull x (by simp),
      fieldByte_of_d7 hb fun hcull => hdata hcull y (by simp)⟩⟩
  next => cases h

/-- PitchBend's two bytes are the halves of its value (R290). -/
theorem readBend_some {ch : U4} {b1 b2 : Byte} {m : Message} (h : readBend ch b1 b2 = some m) :
    ∃ v, m = .pitchBend ch v ∧ fieldByte (u14Lsb v) = b1 ∧ fieldByte (u14Msb v) = b2 := by
  rw [readBend_eq_ite] at h
  split at h
  · cases h
  · next hlt =>
    cases h
    have hjoin : b2.toNat <<< 7 ||| b1.toNat = b2.toNat * 2 ^ 7 + b1.toNat := by
      rw [← Nat.shiftLeft_add_eq_or_of_lt (by omega), Nat.shiftLeft_eq]
    have hval : (BitVec.ofNat 14 (b2.toNat * 2 ^ 7 + b1.toNat)).toNat = b2.toNat * 2 ^ 7 + b1.toNat := by
      rw [BitVec.toNat_ofNat, Nat.mod_eq_of_lt (by omega)]
    refine ⟨_, rfl, ?_, ?_⟩ <;> apply BitVec.eq_of_toNat_eq <;> rw [hjoin]
    · have hmask : (b2.toNat * 2 ^ 7 + b1.toNat) &&& 0x7F = (b2.toNat * 2 ^ 7 + b1.toNat) % 2 ^ 7 :=
        Nat.and_two_pow_sub_one_eq_mod _ 7
      rw [fieldByte_u14Lsb, hval, hmask, BitVec.toNat_ofNat]
      omega
    · rw [fieldByte_u14Msb, hval, BitVec.toNat_ofNat, Nat.shiftRight_eq_div_pow]
      omega

theorem eq_append_of_highNibble {b : Byte} {kind : U4} (h : highNibble b = kind) : ∃ ch : U4, b = kind ++ ch := by
  refine ⟨lowNibble b, ?_⟩
  rw [← h]
  exact (BitVec.extractLsb'_append_extractLsb'_eq_extractLsb' rfl).symm ▸ BitVec.extractLsb'_eq_self.symm

theorem eq_fieldByte_of_lt {b : Byte} (h : b.toNat < 0x80) : ∃ d : U7, b = fieldByte d := by
  refine ⟨bodyField b, BitVec.eq_of_toNat_eq ?_⟩
  rw [fieldByte_toNat, bodyField, BitVec.toNat_setWidth]
  omega

/-- A packet in a variant's row whose fields are read without loss, and whose unused positions are zero, is ENCODE's
packet of what is read. -/
theorem packetOfMessage_of_read {v : Variant} {p : Packet} {m : Message} {policy : DataPolicy} (hrow : Matches v p)
    (hread : readMessage policy v p = some m) (hunused : ∀ b ∈ unusedPositions m p, b = 0)
    (hdata : DataBytes policy (dataPositions m p)) : packetOfMessage p.cable m = p := by
  obtain ⟨cable, cin, b0, b1, b2⟩ := p
  obtain ⟨hcin, hb0, hend⟩ := hrow
  dsimp only at hcin hb0
  subst hcin
  cases v with
  | noteOff | noteOn | notePressure | controlChange =>
    obtain ⟨ch, rfl⟩ := eq_append_of_highNibble hb0
    obtain ⟨a, b, rfl, hfields⟩ := readTwo_some hread
    obtain ⟨rfl, rfl⟩ := hfields hdata
    dsimp only
    rw [lowNibble_append]
    rfl
  | programChange | channelPressure =>
    obtain ⟨ch, rfl⟩ := eq_append_of_highNibble hb0
    obtain ⟨a, rfl, hfield⟩ := readOne_some hread
    obtain rfl := hfield hdata
    obtain rfl : b2 = 0 := hunused b2 (.head _)
    dsimp only
    rw [lowNibble_append]
    rfl
  | pitchBend =>
    obtain ⟨ch, rfl⟩ := eq_append_of_highNibble hb0
    obtain ⟨value, rfl, rfl, rfl⟩ := readBend_some hread
    dsimp only
    rw [lowNibble_append]
    rfl
  | songPositionPointer | sysexBegin =>
    obtain rfl := hb0
    obtain ⟨a, b, rfl, hfields⟩ := readTwo_some hread
    obtain ⟨rfl, rfl⟩ := hfields hdata
    rfl
  | timeCodeQuarterFrame | songSelect =>
    obtain rfl := hb0
    obtain ⟨a, rfl, hfield⟩ := readOne_some hread
    obtain rfl := hfield hdata
    obtain rfl : b2 = 0 := hunused b2 (.head _)
    rfl
  | sysexCont =>
    obtain ⟨d0, rfl⟩ := eq_fieldByte_of_lt hb0
    obtain ⟨a, b, rfl, hfields⟩ := readTwo_some hread
    obtain ⟨rfl, rfl⟩ := hfields hdata
    dsimp only
    rw [bodyField_fieldByte]
    rfl
  | sysexEnd1 =>
    obtain ⟨d0, rfl⟩ := eq_fieldByte_of_lt hb0
    obtain rfl : b1 = 0xF7 := of_decide_eq_true hend
    cases hread
    obtain rfl : b2 = 0 := hunused b2 (.head _)
    dsimp only
    rw [bodyField_fieldByte]
    rfl
  | sysexEnd2 =>
    obtain ⟨d0, rfl⟩ := eq_fieldByte_of_lt hb0
    obtain rfl : b2 = 0xF7 := of_decide_eq_true hend
    obtain ⟨a, rfl, hfield⟩ := readOne_some hread
    obtain rfl := hfield hdata
    dsimp only
    rw [bodyField_fieldByte]
    rfl
  | sysexSingleByte =>
    obtain rfl := hb0
    obtain rfl : b2 = 0xF7 := of_decide_eq_true hend
    obtain ⟨a, rfl, hfield⟩ := readOne_some hread
    obtain rfl := hfield hdata
    rfl
  | sysexEmpty =>
    obtain rfl := hb0
    obtain rfl : b1 = 0xF7 := of_decide_eq_true hend
    cases hread
    obtain rfl : b2 = 0 := hunused b2 (.head _)
    rfl
  | tuneRequest | timingClock | measureEnd | start | continue_ | stop | activeSensing | systemReset | sysexEnd =>
    obtain rfl := hb0
    cases hread
    obtain rfl : b1 = 0 := hunused b1 (.head _)
    obtain rfl : b2 = 0 := hunused b2 (.tail _ (.head _))
    rfl

/-! ### The obligations -/

/-- Settles O30: ENCODE's packet is in its message's row with its fields; and a packet in a row, read without loss, is
ENCODE's. -/
theorem codecRoundTrip : Obligations.CodecRoundTrip := by
  refine ⟨fun cable m s => ⟨packetOfMessage cable m, rfl, rfl, exec_decodePacket_packetOfMessage cable m s⟩,
    fun p m s hdecode hunused hdata => ?_⟩
  obtain ⟨v, hrow, hread⟩ := matches_of_exec_decodePacket hdecode
  have hp := packetOfMessage_of_read hrow hread hunused hdata
  exact congrArg (fun q => Host.Outcome.next (s.setOutput (some (.ok (.packet q))))) hp

/-- Settles O24: ENCODE answers in one step, and its row of R110 depends on the message alone. -/
theorem encodeIsTotalAndKeepsTheCable : Obligations.EncodeIsTotalAndKeepsTheCable := fun mode cable m _ =>
  ⟨decode_command_of_read mode rfl (cableMessage_messageOperand _ cable m), rfl, _, _, _, _, encodesTo_encodeRow m, rfl⟩

end Sys2Proof.Machine
end

section
/-! The parser's transitions (spec/43_parser.md R240 to R249, the transition table): one constructor per row, which
PARSE_BYTE runs and which, in the states R32 allows, leave no byte out. -/

open Sys2Proof.Stated

namespace Sys2Proof.Machine

/-- The result that yields a packet on `PARSER_CABLE` (R240). -/
def packetResult (params : Params) (cin : U4) (bytes : List Byte) : OpResult :=
  .ok (.optPacket (some (makePacket params.parserCable cin bytes)))

/-- The result that yields no packet (R240). -/
def noPacket : OpResult := .ok (.optPacket none)

/-- The rows of the transition table: the parser state before a byte, the byte, the state after it and the result. -/
inductive ParserStep (params : Params) : ParserState → Byte → ParserState → OpResult → Prop where
  | realtime {pu : ParserState} {b : Byte} (hb : 0xF8 ≤ b.toNat) :
    ParserStep params pu b pu (packetResult params 0xF [b])
  | sysexStart {pu : ParserState} : ParserStep params pu 0xF0 (.inSysex [0xF0]) noPacket
  | sysexEnd {collected : List Byte} (hlen : collected.length ≤ 2) :
    ParserStep params (.inSysex collected) 0xF7 .idle
      (packetResult params (BitVec.ofNat 4 (5 + collected.length)) (collected ++ [0xF7]))
  | spuriousEnd {pu : ParserState} (hpu : pu = .idle ∨ ∃ status collected, pu = .awaitingData status collected) :
    ParserStep params pu 0xF7 .idle (.err (.spuriousSysexEnd (some 0xF7)))
  | status {pu : ParserState} {b : Byte} (hb : takesData b) : ParserStep params pu b (.awaitingData b []) noPacket
  | single {pu : ParserState} {b : Byte} (hb : b = 0xF4 ∨ b = 0xF5 ∨ b = 0xF6) :
    ParserStep params pu b .idle (packetResult params 0x5 [b])
  | noStatus {b : Byte} (hb : b.toNat < 0x80) : ParserStep params .idle b .idle (.err (.invalidStatus b))
  | last {status b : Byte} {collected : List Byte} (hst : takesData status) (hb : b.toNat < 0x80)
    (hlen : collected.length + 1 = lengthOf status - 1) :
    ParserStep params (.awaitingData status collected) b (afterMessage params status)
      (packetResult params (cinOf status) (status :: (collected ++ [b])))
  | notLast {status b : Byte} {collected : List Byte} (hst : takesData status) (hb : b.toNat < 0x80)
    (hlen : collected.length + 1 ≠ lengthOf status - 1) :
    ParserStep params (.awaitingData status collected) b (.awaitingData status (collected ++ [b])) noPacket
  | third {b : Byte} {collected : List Byte} (hb : b.toNat < 0x80) (hlen : collected.length + 1 = 3) :
    ParserStep params (.inSysex collected) b (.inSysex []) (packetResult params 0x4 (collected ++ [b]))
  | notThird {b : Byte} {collected : List Byte} (hb : b.toNat < 0x80) (hlen : collected.length + 1 ≠ 3) :
    ParserStep params (.inSysex collected) b (.inSysex (collected ++ [b])) noPacket

/-! ### PARSE_BYTE runs the table -/

/-- 0xF7 flushes the collected bytes with their number in the framing code (R243). -/
theorem parseSysexEnd_of_le {collected : List Byte} (h : collected.length ≤ 2) (s : State) :
    parseSysexEnd collected s =
      .next ((s.setPu .idle).setOutput
        (some (packetResult s.params (BitVec.ofNat 4 (5 + collected.length)) (collected ++ [0xF7])))) := by
  match collected with
  | [] | [_] | [_, _] => rfl
  | _ :: _ :: _ :: _ => simp at h

theorem parseDataSysex_of_third {collected : List Byte} (h : collected.length + 1 = 3) (b : Byte) (s : State) :
    parseDataSysex collected b s =
      .next ((s.setPu (.inSysex [])).setOutput (some (packetResult s.params 0x4 (collected ++ [b])))) := by
  rw [parseDataSysex, List.length_append, List.length_singleton, if_pos h]
  rfl

/-- PARSE_BYTE does what the row of the table says. -/
theorem exec_parseByte_of_step {s : State} {b : Byte} {pu : ParserState} {o : OpResult}
    (h : ParserStep s.params s.pu b pu o) :
    exec (.parseByte b) s = .next ((s.setPu pu).setOutput (some o)) := by
  generalize hpu : s.pu = pu₀ at h
  cases h with
  | realtime hb =>
    subst hpu
    exact exec_parseByte_of_realtime hb s
  | sysexStart => rfl
  | sysexEnd hlen =>
    rw [exec_eq_parseEndByte (.inl rfl), parseEndByte_of_inSysex hpu, parseSysexEnd_of_le hlen]
  | spuriousEnd hform =>
    rw [exec_eq_parseEndByte (.inl rfl), parseEndByte_of_not_inSysex (hpu ▸ hform)]
    rfl
  | status hb => exact exec_parseByte_of_takesData hb s
  | single hb => rcases hb with rfl | rfl | rfl <;> rfl
  | noStatus hb =>
    rw [exec_parseByte_of_data hb, parseDataByte_of_idle hpu]
    rfl
  | last hst hb hlen =>
    rw [exec_parseByte_of_data hb, parseDataByte_of_awaitingData hpu, parseDataAwaiting_of_last hst hlen]
    rfl
  | notLast hst hb hlen =>
    rw [exec_parseByte_of_data hb, parseDataByte_of_awaitingData hpu, parseDataAwaiting_of_not_last hst hlen]
    rfl
  | third hb hlen =>
    rw [exec_parseByte_of_data hb, parseDataByte_of_inSysex hpu, parseDataSysex_of_third hlen]
  | notThird hb hlen =>
    rw [exec_parseByte_of_data hb, parseDataByte_of_inSysex hpu, parseDataSysex_of_not_third hlen]
    rfl

/-! ### The invariant of `PU.state` (R32) -/

theorem awaitsData_iff {b : Byte} : awaitsData b = true ↔ takesData b := by
  rw [awaitsData, Bool.or_eq_true, isVoiceByte_iff, decide_eq_true_iff]
  rfl

theorem messageLength_of_takesData {b : Byte} (h : takesData b) : messageLength b = lengthOf b := by
  obtain ⟨k, hk, hlen, -⟩ := classifyByte_of_takesData h
  rw [messageLength, hk]
  exact hlen

theorem inv_awaitingData_iff {status : Byte} {collected : List Byte} :
    (ParserState.awaitingData status collected).inv = true ↔
      takesData status ∧ (∀ b ∈ collected, b.toNat < 0x80) ∧ collected.length < lengthOf status - 1 := by
  simp only [ParserState.inv, Bool.and_eq_true, awaitsData_iff, List.all_eq_true, isDataByte_iff, decide_eq_true_iff,
    and_assoc]
  exact and_congr_right fun h => by rw [messageLength_of_takesData h]

theorem inv_inSysex_iff {collected : List Byte} :
    (ParserState.inSysex collected).inv = true ↔ collected.length ≤ 2 ∧ sysexScratchOk collected = true := by
  simp [ParserState.inv]

/-- The scratch bytes of a run after one more data byte (R32). -/
theorem sysexScratchOk_append {collected : List Byte} {b : Byte} (h : sysexScratchOk collected = true)
    (hb : b.toNat < 0x80) : sysexScratchOk (collected ++ [b]) = true := by
  cases collected with
  | nil => simp [sysexScratchOk, isDataByte_iff, hb]
  | cons a rest =>
    simp only [sysexScratchOk, List.cons_append, List.all_append, Bool.and_eq_true] at h ⊢
    exact ⟨h.1, h.2, by simp [isDataByte_iff, hb]⟩

theorem two_le_lengthOf (b : Byte) : 2 ≤ lengthOf b := by
  rw [lengthOf]
  split <;> decide

theorem inv_awaitingData_nil {b : Byte} (h : takesData b) : (ParserState.awaitingData b []).inv = true := by
  have hlen := two_le_lengthOf b
  exact inv_awaitingData_iff.mpr ⟨h, by simp, by rw [List.length_nil]; omega⟩

/-- Every row of the table keeps the invariant. -/
theorem ParserStep.inv_next {params : Params} {pu pu' : ParserState} {b : Byte} {o : OpResult}
    (h : ParserStep params pu b pu' o) (hinv : pu.inv = true) : pu'.inv = true := by
  cases h with
  | realtime => exact hinv
  | sysexStart | sysexEnd | spuriousEnd | single | noStatus | third => rfl
  | status hb => exact inv_awaitingData_nil hb
  | last hst =>
    rw [afterMessage]
    split
    · exact inv_awaitingData_nil hst
    · rfl
  | notLast hst hb hlen =>
    obtain ⟨-, hdata, hlt⟩ := inv_awaitingData_iff.mp hinv
    refine inv_awaitingData_iff.mpr ⟨hst, ?_, by rw [List.length_append, List.length_singleton]; omega⟩
    simpa [or_imp, forall_and] using ⟨hdata, hb⟩
  | notThird hb hlen =>
    obtain ⟨hle, hok⟩ := inv_inSysex_iff.mp hinv
    exact inv_inSysex_iff.mpr
      ⟨by rw [List.length_append, List.length_singleton]; omega, sysexScratchOk_append hok hb⟩

/-- The bytes from 0x80 to 0xF7 but 0xF0 and 0xF7 are a status that takes data or one that stands alone. -/
theorem takesData_or_single {b : Byte} (hl : 0x80 ≤ b.toNat) (hu : b.toNat < 0xF8) (hstart : b ≠ 0xF0)
    (hend : b ≠ 0xF7) : takesData b ∨ b = 0xF4 ∨ b = 0xF5 ∨ b = 0xF6 := by
  by_cases hv : b.toNat ≤ 0xEF
  · exact .inl (.inl ⟨hl, hv⟩)
  · have hsys : b = 0xF1 ∨ b = 0xF2 ∨ b = 0xF3 ∨ b = 0xF4 ∨ b = 0xF5 ∨ b = 0xF6 := by bv_omega
    rcases hsys with h | h | h | h
    · exact .inl (.inr (.inl h))
    · exact .inl (.inr (.inr (.inl h)))
    · exact .inl (.inr (.inr (.inr h)))
    · exact .inr h

/-- In a state R32 allows every byte has a row. -/
theorem exists_parserStep {pu : ParserState} (hinv : pu.inv = true) (params : Params) (b : Byte) :
    ∃ pu' o, ParserStep params pu b pu' o := by
  by_cases hrt : 0xF8 ≤ b.toNat
  · exact ⟨_, _, .realtime hrt⟩
  by_cases hstart : b = 0xF0
  · subst hstart
    exact ⟨_, _, .sysexStart⟩
  by_cases hend : b = 0xF7
  · subst hend
    cases pu with
    | idle => exact ⟨_, _, .spuriousEnd (.inl rfl)⟩
    | awaitingData status collected => exact ⟨_, _, .spuriousEnd (.inr ⟨status, collected, rfl⟩)⟩
    | inSysex collected => exact ⟨_, _, .sysexEnd (inv_inSysex_iff.mp hinv).1⟩
  by_cases hst : 0x80 ≤ b.toNat
  · rcases takesData_or_single hst (Nat.not_le.mp hrt) hstart hend with h | h
    · exact ⟨_, _, .status h⟩
    · exact ⟨_, _, .single h⟩
  have hb : b.toNat < 0x80 := Nat.not_le.mp hst
  cases pu with
  | idle => exact ⟨_, _, .noStatus hb⟩
  | awaitingData status collected =>
    obtain ⟨hst, -, -⟩ := inv_awaitingData_iff.mp hinv
    by_cases hlen : collected.length + 1 = lengthOf status - 1
    · exact ⟨_, _, .last hst hb hlen⟩
    · exact ⟨_, _, .notLast hst hb hlen⟩
  | inSysex collected =>
    by_cases hlen : collected.length + 1 = 3
    · exact ⟨_, _, .third hb hlen⟩
    · exact ⟨_, _, .notThird hb hlen⟩

/-- What PARSE_BYTE can do in a state R32 allows: it completes, by a row of the table. -/
theorem exec_parseByte_cases {s : State} (hinv : s.pu.inv = true) (b : Byte) :
    ∃ pu o, ParserStep s.params s.pu b pu o ∧ exec (.parseByte b) s = .next ((s.setPu pu).setOutput (some o)) := by
  obtain ⟨pu, o, hstep⟩ := exists_parserStep hinv s.params b
  exact ⟨pu, o, hstep, exec_parseByte_of_step hstep⟩

/-- Where PARSE_BYTE completes in a state R32 allows, it has done so by a row of the table. -/
theorem parserStep_of_exec {s t : State} {b : Byte} (hinv : s.pu.inv = true) (h : exec (.parseByte b) s = .next t) :
    ∃ pu o, ParserStep s.params s.pu b pu o ∧ t = (s.setPu pu).setOutput (some o) := by
  obtain ⟨pu, o, hstep, hexec⟩ := exec_parseByte_cases hinv b
  exact ⟨pu, o, hstep, Host.Outcome.next.inj (h.symm.trans hexec)⟩

/-- Every row yields nothing, or one packet, or an error that leaves `Idle`. -/
theorem ParserStep.result {params : Params} {pu pu' : ParserState} {b : Byte} {o : OpResult}
    (h : ParserStep params pu b pu' o) :
    o = noPacket ∨ (∃ p, o = .ok (.optPacket (some p))) ∨ ∃ e, o = .err e ∧ pu' = .idle := by
  cases h with
  | sysexStart | status | notLast | notThird => exact .inl rfl
  | realtime | sysexEnd | single | last | third => exact .inr (.inl ⟨_, rfl⟩)
  | spuriousEnd | noStatus => exact .inr (.inr ⟨_, rfl, rfl⟩)

/-! ### The obligation -/

/-- Settles O21: every byte has a row of the table, and every row one of the three results. -/
theorem everyByteHasOneResult : Obligations.EveryByteHasOneResult := by
  refine fun mode s b => ⟨decode_command_of_read mode rfl (oneWord_toNat _ b), fun hinv => ?_⟩
  obtain ⟨pu, o, hstep, hexec⟩ := exec_parseByte_cases hinv b
  refine ⟨_, hexec, ?_⟩
  rcases hstep.result with rfl | ⟨p, rfl⟩ | ⟨e, rfl, rfl⟩
  · exact .inl rfl
  · exact .inr (.inl ⟨p, rfl⟩)
  · exact .inr (.inr ⟨e, rfl, rfl⟩)

end Sys2Proof.Machine
end

section
/-! Packet consistency (spec/41_packet.md R195): for each packet a row of the parser's table yields, the message it is the
ENCODE image of. -/

open Sys2Proof.Stated

namespace Sys2Proof.Machine

/-- A packet with the framing code and payload of a message's row of R110 is consistent. -/
theorem consistent_of_encodeRow {m : Message} {cin : U4} {bytes : List Byte} (h : encodeRow m = (cin, bytes))
    (cable : U4) : Consistent (makePacket cable cin bytes) := by
  refine ⟨m, ?_⟩
  rw [packetOfMessage, h]
  rfl

/-- The single-byte packet of a status no message has: 0xF4, 0xF5, 0xFD (R195). -/
def UndefinedPacket (p : Packet) : Prop :=
  p.b1 = 0 ∧ p.b2 = 0 ∧ ((p.cin = 0x5 ∧ (p.b0 = 0xF4 ∨ p.b0 = 0xF5)) ∨ (p.cin = 0xF ∧ p.b0 = 0xFD))

/-! ### Channel-voice packets -/

/-- A 14-bit value has any two halves. -/
theorem exists_u14_of_halves (lsb msb : U7) : ∃ v : U14, u14Lsb v = lsb ∧ u14Msb v = msb :=
  ⟨msb ++ lsb, BitVec.extractLsb'_append_eq_right, BitVec.extractLsb'_append_eq_left⟩

/-- Each kind nibble but 0xC and 0xD has a message with two data bytes (R110). -/
theorem consistent_voiceTwo {nibble : U4} (hl : 0x8 ≤ nibble.toNat) (hu : nibble.toNat ≤ 0xE)
    (hlen : ¬ (0xC ≤ nibble.toNat ∧ nibble.toNat ≤ 0xD)) (cable ch : U4) (a b : U7) :
    Consistent (makePacket cable nibble [nibble ++ ch, fieldByte a, fieldByte b]) := by
  have hcases : nibble = 0x8 ∨ nibble = 0x9 ∨ nibble = 0xA ∨ nibble = 0xB ∨ nibble = 0xE := by bv_omega
  rcases hcases with rfl | rfl | rfl | rfl | rfl
  · exact consistent_of_encodeRow (m := .noteOff ch a b) rfl cable
  · exact consistent_of_encodeRow (m := .noteOn ch a b) rfl cable
  · exact consistent_of_encodeRow (m := .notePressure ch a b) rfl cable
  · exact consistent_of_encodeRow (m := .controlChange ch a b) rfl cable
  · obtain ⟨value, rfl, rfl⟩ := exists_u14_of_halves a b
    exact consistent_of_encodeRow (m := .pitchBend ch value) rfl cable

/-- The nibbles 0xC and 0xD have a message with one data byte (R110). -/
theorem consistent_voiceOne {nibble : U4} (hl : 0xC ≤ nibble.toNat) (hu : nibble.toNat ≤ 0xD) (cable ch : U4) (a : U7) :
    Consistent (makePacket cable nibble [nibble ++ ch, fieldByte a]) := by
  have hcases : nibble = 0xC ∨ nibble = 0xD := by bv_omega
  rcases hcases with rfl | rfl
  · exact consistent_of_encodeRow (m := .programChange ch a) rfl cable
  · exact consistent_of_encodeRow (m := .channelPressure ch a) rfl cable

/-- A completed channel-voice message is consistent (R247). -/
theorem consistent_of_isVoice {status : Byte} (hv : isVoice status) {data : List Byte}
    (hdata : ∀ b ∈ data, b.toNat < 0x80) (hlen : data.length = lengthOf status - 1) (cable : U4) :
    Consistent (makePacket cable (cinOf status) (status :: data)) := by
  obtain ⟨ch, hst⟩ := eq_append_of_highNibble (b := status) rfl
  have hnib := highNibble_toNat_eq_div status
  have hrange : 0x8 ≤ (highNibble status).toNat ∧ (highNibble status).toNat ≤ 0xE := by
    obtain ⟨hl, hu⟩ := hv
    omega
  have hcin : cinOf status = highNibble status :=
    (cinFor_of_isVoice hv .noteOff).symm.trans (if_pos (isVoiceByte_iff.mpr hv))
  rw [← expectedLenOf_of_isVoice hv, expectedLenOf_voiceKind] at hlen
  rw [hcin]
  generalize highNibble status = nibble at *
  subst hst
  split at hlen
  next hone =>
    obtain ⟨x, rfl⟩ := List.length_eq_one_iff.mp hlen
    obtain ⟨a, rfl⟩ := eq_fieldByte_of_lt (hdata x (by simp))
    exact consistent_voiceOne hone.1 hone.2 cable ch a
  next htwo =>
    obtain ⟨x, y, rfl⟩ := List.length_eq_two.mp hlen
    obtain ⟨a, rfl⟩ := eq_fieldByte_of_lt (hdata x (by simp))
    obtain ⟨b, rfl⟩ := eq_fieldByte_of_lt (hdata y (by simp))
    exact consistent_voiceTwo hrange.1 hrange.2 htwo cable ch a b

/-- A completed message of any status that takes data is consistent (R247). -/
theorem consistent_of_takesData {status : Byte} (hst : takesData status) {data : List Byte}
    (hdata : ∀ b ∈ data, b.toNat < 0x80) (hlen : data.length = lengthOf status - 1) (cable : U4) :
    Consistent (makePacket cable (cinOf status) (status :: data)) := by
  rcases hst with hv | rfl | rfl | rfl
  · exact consistent_of_isVoice hv hdata hlen cable
  · obtain ⟨x, rfl⟩ := List.length_eq_one_iff.mp hlen
    obtain ⟨a, rfl⟩ := eq_fieldByte_of_lt (hdata x (by simp))
    exact consistent_of_encodeRow (m := .timeCodeQuarterFrame a) rfl cable
  · obtain ⟨x, y, rfl⟩ := List.length_eq_two.mp hlen
    obtain ⟨a, rfl⟩ := eq_fieldByte_of_lt (hdata x (by simp))
    obtain ⟨b, rfl⟩ := eq_fieldByte_of_lt (hdata y (by simp))
    exact consistent_of_encodeRow (m := .songPositionPointer a b) rfl cable
  · obtain ⟨x, rfl⟩ := List.length_eq_one_iff.mp hlen
    obtain ⟨a, rfl⟩ := eq_fieldByte_of_lt (hdata x (by simp))
    exact consistent_of_encodeRow (m := .songSelect a) rfl cable

/-! ### System packets -/

/-- A real-time byte has a message, but for 0xFD (R110). -/
theorem consistent_or_undefined_of_realtime {b : Byte} (hb : 0xF8 ≤ b.toNat) (cable : U4) :
    Consistent (makePacket cable 0xF [b]) ∨ UndefinedPacket (makePacket cable 0xF [b]) := by
  have hcases : b = 0xF8 ∨ b = 0xF9 ∨ b = 0xFA ∨ b = 0xFB ∨ b = 0xFC ∨ b = 0xFD ∨ b = 0xFE ∨ b = 0xFF := by bv_omega
  rcases hcases with rfl | rfl | rfl | rfl | rfl | rfl | rfl | rfl
  · exact .inl (consistent_of_encodeRow (m := .timingClock) rfl cable)
  · exact .inl (consistent_of_encodeRow (m := .measureEnd) rfl cable)
  · exact .inl (consistent_of_encodeRow (m := .start) rfl cable)
  · exact .inl (consistent_of_encodeRow (m := .continue_) rfl cable)
  · exact .inl (consistent_of_encodeRow (m := .stop) rfl cable)
  · exact .inr ⟨rfl, rfl, .inr ⟨rfl, rfl⟩⟩
  · exact .inl (consistent_of_encodeRow (m := .activeSensing) rfl cable)
  · exact .inl (consistent_of_encodeRow (m := .systemReset) rfl cable)

theorem consistent_or_undefined_of_single {b : Byte} (hb : b = 0xF4 ∨ b = 0xF5 ∨ b = 0xF6) (cable : U4) :
    Consistent (makePacket cable 0x5 [b]) ∨ UndefinedPacket (makePacket cable 0x5 [b]) := by
  rcases hb with rfl | rfl | rfl
  · exact .inr ⟨rfl, rfl, .inl ⟨rfl, .inl rfl⟩⟩
  · exact .inr ⟨rfl, rfl, .inl ⟨rfl, .inr rfl⟩⟩
  · exact .inl (consistent_of_encodeRow (m := .tuneRequest) rfl cable)

/-- The first scratch byte of a run is 0xF0 or a data field, every other one a data field (R32). -/
theorem sysexScratchOk_cons_iff {a : Byte} {rest : List Byte} :
    sysexScratchOk (a :: rest) = true ↔ (a = 0xF0 ∨ a.toNat < 0x80) ∧ ∀ b ∈ rest, b.toNat < 0x80 := by
  simp [sysexScratchOk, isDataByte]

/-- The packet 0xF7 flushes is consistent (R243). -/
theorem consistent_of_sysexEnd {collected : List Byte} (hinv : (ParserState.inSysex collected).inv = true)
    (cable : U4) :
    Consistent (makePacket cable (BitVec.ofNat 4 (5 + collected.length)) (collected ++ [0xF7])) := by
  obtain ⟨hlen, hok⟩ := inv_inSysex_iff.mp hinv
  match collected with
  | [] => exact consistent_of_encodeRow (m := .sysexEnd) rfl cable
  | [x] =>
    rcases (sysexScratchOk_cons_iff.mp hok).1 with rfl | hx
    · exact consistent_of_encodeRow (m := .sysexEmpty) rfl cable
    · obtain ⟨a, rfl⟩ := eq_fieldByte_of_lt hx
      exact consistent_of_encodeRow (m := .sysexEnd1 a) rfl cable
  | [x, y] =>
    obtain ⟨hfirst, hrest⟩ := sysexScratchOk_cons_iff.mp hok
    obtain ⟨b, rfl⟩ := eq_fieldByte_of_lt (hrest y (by simp))
    rcases hfirst with rfl | hx
    · exact consistent_of_encodeRow (m := .sysexSingleByte b) rfl cable
    · obtain ⟨a, rfl⟩ := eq_fieldByte_of_lt hx
      exact consistent_of_encodeRow (m := .sysexEnd2 a b) rfl cable
  | _ :: _ :: _ :: _ => simp at hlen

/-- The packet of every third byte of a run is consistent (R248). -/
theorem consistent_of_third {collected : List Byte} {b : Byte} (hinv : (ParserState.inSysex collected).inv = true)
    (hb : b.toNat < 0x80) (hlen : collected.length + 1 = 3) (cable : U4) :
    Consistent (makePacket cable 0x4 (collected ++ [b])) := by
  obtain ⟨x, y, rfl⟩ := List.length_eq_two.mp (Nat.succ_inj.mp hlen)
  obtain ⟨hfirst, hrest⟩ := sysexScratchOk_cons_iff.mp (inv_inSysex_iff.mp hinv).2
  obtain ⟨d1, rfl⟩ := eq_fieldByte_of_lt (hrest y (by simp))
  obtain ⟨d2, rfl⟩ := eq_fieldByte_of_lt hb
  rcases hfirst with rfl | hx
  · exact consistent_of_encodeRow (m := .sysexBegin d1 d2) rfl cable
  · obtain ⟨d0, rfl⟩ := eq_fieldByte_of_lt hx
    exact consistent_of_encodeRow (m := .sysexCont d0 d1 d2) rfl cable

/-! ### The obligation -/

/-- A packet that a row of the table yields is consistent, or the packet of an undefined status. -/
theorem ParserStep.consistent_or_undefined {params : Params} {pu pu' : ParserState} {b : Byte} {o : OpResult}
    {p : Packet} (h : ParserStep params pu b pu' o) (hinv : pu.inv = true) (ho : o = .ok (.optPacket (some p))) :
    Consistent p ∨ UndefinedPacket p := by
  cases h with
  | sysexStart | spuriousEnd | status | noStatus | notLast | notThird => cases ho
  | realtime hb =>
    cases ho
    exact consistent_or_undefined_of_realtime hb _
  | sysexEnd =>
    cases ho
    exact .inl (consistent_of_sysexEnd hinv _)
  | single hb =>
    cases ho
    exact consistent_or_undefined_of_single hb _
  | last hst hb hlen =>
    cases ho
    obtain ⟨-, hdata, -⟩ := inv_awaitingData_iff.mp hinv
    refine .inl (consistent_of_takesData hst ?_ (by rw [List.length_append, List.length_singleton, hlen]) _)
    simpa [or_imp, forall_and] using ⟨hdata, hb⟩
  | third hb hlen =>
    cases ho
    exact .inl (consistent_of_third hinv hb hlen _)

/-- A packet that GEN_NEXT yields is ENCODE's packet of a message (R374). -/
theorem consistent_of_genNext {s t : State} {p : Packet} (h : exec .genNext s = .next t)
    (hout : t.output = some (.ok (.optPacket (some p)))) : Consistent p := by
  cases hm : s.tgMsgs[s.tgK]? with
  | none =>
    rw [exec_genNext_of_none hm] at h
    cases h
    cases hout
  | some m =>
    rw [exec_genNext_of_some hm] at h
    cases h
    cases hout
    exact ⟨m, rfl⟩

/-- Settles O31: GEN_NEXT encodes, and each row of the parser's table yields the packet of a message or of an undefined
status. -/
theorem yieldedPacketsAreConsistent : Obligations.YieldedPacketsAreConsistent := by
  intro s t i p hinv hi hexec hout
  rcases hi with rfl | ⟨b, rfl⟩
  · exact .inl (consistent_of_genNext hexec hout)
  · obtain ⟨pu, o, hstep, rfl⟩ := parserStep_of_exec hinv hexec
    exact hstep.consistent_or_undefined hinv (Option.some.inj hout)

end Sys2Proof.Machine
end

section
/-! Inputs and instructions (spec/30_encoding.md): a byte-class row does what PARSE_BYTE of its byte does (R240) and a
packet row what DECODE of its packet does (R282); what the decoder answers on an input, and what it answers on the input
the encoder writes. -/

open Sys2Proof.Stated

namespace Sys2Proof.Machine

/-! ### The rows of the serial input (R240) -/

/-- PARSE_BYTE of a channel-voice status is the step of its status (R245). -/
theorem exec_parseByte_append {kind : U4} (hl : 0x8 ≤ kind.toNat) (hu : kind.toNat ≤ 0xE) (ch : U4) (s : State) :
    parseStatusByte (kind ++ ch) s = exec (.parseByte (kind ++ ch)) s := by
  rw [parseStatusByte_append hl hu, append_eq_voiceByte, exec_parseByte_of_takesData (takesData_voiceByte hl hu ch)]

/-- A row of the serial input does what PARSE_BYTE of its byte does, in every state. -/
theorem exec_of_encode_serial {i : Instr} {b : Byte} (h : encode i = .serial b) (s : State) :
    exec i s = exec (.parseByte b) s := by
  cases i with
  | byteNoteOff ch | byteNoteOn ch | byteNotePressure ch | byteControlChange ch | byteProgramChange ch
  | byteChannelPressure ch | bytePitchBend ch =>
    cases h
    exact exec_parseByte_append (by decide) (by decide) ch s
  | byteDataIdle v | byteDataAwaitingData v | byteDataInSysex v =>
    cases h
    exact (exec_parseByte_of_data (fieldByte_lt v) s).symm
  | byteSysexStart | byteTimeCodeQuarterFrame | byteSongPositionPointer | byteSongSelect | byteUndefinedF4
  | byteUndefinedF5 | byteTuneRequest | byteSysexEndInSysex | byteSysexEndSpurious | byteTimingClock | byteMeasureEnd
  | byteStart | byteContinue | byteStop | byteUndefinedFD | byteActiveSensing | byteSystemReset =>
    cases h
    rfl
  | _ => cases h

/-! ### The rows of the USB input (R112) -/

theorem packetOfWire_append (cable cin : U4) (b0 b1 b2 : Byte) :
    packetOfWire (cable ++ cin) b0 b1 b2 = { cable, cin, b0, b1, b2 } := by
  rw [packetOfWire, highNibble_append, lowNibble_append]

/-- A row of the USB input does what DECODE of its packet does, in every state. -/
theorem exec_of_encode_usb {i : Instr} {w0 w1 w2 w3 : Byte} (h : encode i = .usb w0 w1 w2 w3) (s : State) :
    exec i s = exec (.decodePacket (packetOfWire w0 w1 w2 w3)) s := by
  cases i with
  | pktNoteOff _ ch | pktNoteOn _ ch | pktNotePressure _ ch | pktControlChange _ ch | pktProgramChange _ ch
  | pktChannelPressure _ ch | pktPitchBend _ ch =>
    cases h
    rw [packetOfWire_append]
    dsimp only [exec]
    refine (exec_decodePacket_of_matches ?_ s).symm
    exact ⟨rfl, highNibble_append _ ch, rfl⟩
  | pktSysexCont _ d0 | pktSysexEnd1 _ d0 | pktSysexEnd2 _ d0 =>
    cases h
    rw [packetOfWire_append]
    dsimp only [exec]
    refine (exec_decodePacket_of_matches ?_ s).symm
    exact ⟨rfl, fieldByte_lt d0, rfl⟩
  | pktTimeCodeQuarterFrame | pktSongSelect | pktSongPositionPointer | pktSysexBegin | pktTuneRequest | pktSysexEnd
  | pktSysexEmpty | pktSysexSingleByte | pktTimingClock | pktMeasureEnd | pktStart | pktContinue | pktStop
  | pktActiveSensing | pktSystemReset =>
    cases h
    rw [packetOfWire_append]
    dsimp only [exec]
    refine (exec_decodePacket_of_matches ?_ s).symm
    exact ⟨rfl, rfl, rfl⟩
  | _ => cases h

/-! ### What the decoder answers -/

/-- The decoder's row of a serial byte is one that byte stands for, and one the parser's form selects (R240). -/
theorem encode_decodeSerial (mode : ParserMode) (b : Byte) :
    encode (decodeSerial mode b) = .serial b ∧ selectedIn mode (decodeSerial mode b) = true := by
  cases mode <;> revert b <;> decide

theorem highNibble_append_lowNibble (b : Byte) : highNibble b ++ lowNibble b = b := by
  obtain ⟨ch, hb⟩ := eq_append_of_highNibble (b := b) rfl
  rw [hb, highNibble_append, lowNibble_append]

/-- The record with a packet's fields is the bytes it was read from (R70). -/
theorem usbRecord_packetOfWire (w0 w1 w2 w3 : Byte) :
    usbRecord (highNibble w0) (lowNibble w0) w1 w2 w3 = .usb w0 w1 w2 w3 := by
  rw [usbRecord, highNibble_append_lowNibble]

/-- The low seven bits of a data byte are its field (R100). -/
theorem dataByte_extractLsb' {b : Byte} (h : b < 0x80) : dataByte (b.extractLsb' 0 7) = b := by
  revert b
  decide

/-- What an instruction that a record of `p` decodes to is: a row whose record has the bytes of `p`, or DECODE of `p`. -/
def RowOfRecord (p : Packet) (i : Instr) : Prop :=
  encode i = usbRecord p.cable p.cin p.b0 p.b1 p.b2 ∨ i = .decodePacket p

theorem eq_ofNat_of_toNat_eq {w n : Nat} {v : BitVec w} (h : v.toNat = n) : v = BitVec.ofNat w n := by
  rw [← h, BitVec.ofNat_toNat, BitVec.setWidth_eq]

/-- The record of a channel-voice row is that of a packet whose kind nibble is its framing code (R112). -/
theorem voiceRecord_eq_usbRecord {cable cin kind : U4} {b0 : Byte} (hcin : cin = kind) (hkind : highNibble b0 = cin)
    (b1 b2 : Byte) : voiceRecord cable kind (lowNibble b0) b1 b2 = usbRecord cable cin b0 b1 b2 := by
  subst hcin
  rw [voiceRecord, ← hkind, highNibble_append_lowNibble]

theorem rowOfRecord_decodeVoicePacket (p : Packet) :
    RowOfRecord p (decodeVoicePacket p.cable p.cin p.b0 p.b1 p.b2 (.decodePacket p)) := by
  unfold decodeVoicePacket
  dsimp only
  split
  case isFalse => exact .inr rfl
  case isTrue hkind =>
    split <;> rename_i hcin
    case h_8 => exact .inr rfl
    all_goals exact .inl (voiceRecord_eq_usbRecord (eq_ofNat_of_toNat_eq hcin) hkind p.b1 p.b2)

theorem rowOfRecord_decodeRealtimePacket {p : Packet} (hcin : p.cin = 0xF) :
    RowOfRecord p (decodeRealtimePacket p.cable p.b0 p.b1 p.b2 (.decodePacket p)) := by
  obtain ⟨cable, cin, b0, b1, b2⟩ := p
  dsimp only at hcin ⊢
  subst hcin
  unfold decodeRealtimePacket
  split <;> rename_i hb0
  case h_8 => exact .inr rfl
  all_goals
    obtain rfl := eq_ofNat_of_toNat_eq hb0
    exact .inl rfl

theorem rowOfRecord_ite {c : Prop} [Decidable c] {p : Packet} {i j : Instr} (hi : c → RowOfRecord p i)
    (hj : ¬ c → RowOfRecord p j) : RowOfRecord p (if c then i else j) := by
  split
  · next h => exact hi h
  · next h => exact hj h

/-- A row whose record has some b0 is the row of a packet with that b0. -/
theorem rowOfRecord_of_b0 {cable cin : U4} {b b0 b1 b2 : Byte} {i : Instr} (hb : b = b0)
    (hi : encode i = usbRecord cable cin b b1 b2) : RowOfRecord { cable, cin, b0, b1, b2 } i :=
  .inl (hb ▸ hi)

/-- A record decodes to a row it has the bytes of, or to DECODE of its packet (R112, R282). -/
theorem rowOfRecord_decodeRecord (p : Packet) : RowOfRecord p (decodeRecord p) := by
  obtain ⟨cable, cin, b0, b1, b2⟩ := p
  unfold decodeRecord
  dsimp only
  split <;> rename_i hcin
  case h_7 => exact rowOfRecord_decodeRealtimePacket (eq_ofNat_of_toNat_eq hcin)
  case h_8 => exact rowOfRecord_decodeVoicePacket { cable, cin, b0, b1, b2 }
  all_goals obtain rfl := eq_ofNat_of_toNat_eq hcin
  case h_1 | h_4 =>
    exact rowOfRecord_ite (fun h => rowOfRecord_of_b0 h.symm rfl) fun _ =>
      rowOfRecord_ite (fun h => rowOfRecord_of_b0 h.symm rfl) fun _ => .inr rfl
  case h_2 => exact rowOfRecord_ite (fun h => rowOfRecord_of_b0 h.symm rfl) fun _ => .inr rfl
  case h_3 =>
    exact rowOfRecord_ite (fun h => rowOfRecord_of_b0 h.symm rfl) fun _ =>
      rowOfRecord_ite (fun h => rowOfRecord_of_b0 (dataByte_extractLsb' h) rfl) fun _ => .inr rfl
  case h_5 | h_6 =>
    refine rowOfRecord_ite (fun hend => ?_) fun _ => .inr rfl
    obtain rfl := hend
    exact rowOfRecord_ite (fun h => rowOfRecord_of_b0 h.symm rfl) fun _ =>
      rowOfRecord_ite (fun h => rowOfRecord_of_b0 (dataByte_extractLsb' h) rfl) fun _ => .inr rfl

/-- Whatever a record decodes to does what DECODE of its packet does. -/
theorem exec_decodeUsb (w0 w1 w2 w3 : Byte) (s : State) :
    exec (decodeUsb w0 w1 w2 w3) s = exec (.decodePacket (packetOfWire w0 w1 w2 w3)) s := by
  rcases rowOfRecord_decodeRecord (packetOfWire w0 w1 w2 w3) with h | h
  · exact exec_of_encode_usb (h.trans (usbRecord_packetOfWire w0 w1 w2 w3)) s
  · exact congrArg (exec · s) h

/-! ### Decode of encode -/

/-- The row of a channel-voice byte is read from its nibbles. -/
theorem decodeSerial_append {mode : ParserMode} {kind ch : U4} {i : Instr}
    (h : ∀ b : Byte, b.extractLsb' 4 4 = kind → b.extractLsb' 0 4 = ch → decodeSerial mode b = i) :
    decode mode (.serial (kind ++ ch)) = .ok i :=
  congrArg Except.ok (h _ (highNibble_append kind ch) (lowNibble_append kind ch))

/-- A data byte's row is read from its field and the parser's form (R240). -/
theorem decodeSerial_dataByte (mode : ParserMode) (v : U7) :
    decodeSerial mode (dataByte v) = decodeDataByte mode v := by
  cases mode <;> revert v <;> decide

/-- The record of a packet decodes as the packet. -/
theorem decode_usbRecord (mode : ParserMode) (cable cin : U4) (b0 b1 b2 : Byte) :
    decode mode (usbRecord cable cin b0 b1 b2) = .ok (decodeRecord { cable, cin, b0, b1, b2 }) :=
  congrArg (fun p => Except.ok (decodeRecord p)) (packetOfWire_append cable cin b0 b1 b2)

/-- Each byte-class row is the one its byte selects, in the parser forms it names (R240). -/
theorem decode_encode_of_serial {mode : ParserMode} {i : Instr} {b : Byte} (hmode : selectedIn mode i = true)
    (h : encode i = .serial b) : decode mode (.serial b) = .ok i := by
  cases i with
  | byteNoteOff | byteNoteOn | byteNotePressure | byteControlChange | byteProgramChange | byteChannelPressure
  | bytePitchBend =>
    cases h
    refine decodeSerial_append fun b hkind hch => ?_
    rw [decodeSerial, hkind, hch]
    rfl
  | byteDataIdle v | byteDataAwaitingData v | byteDataInSysex v =>
    cases h
    obtain rfl := of_decide_eq_true hmode
    exact congrArg Except.ok (decodeSerial_dataByte _ v)
  | byteSysexEndInSysex =>
    cases h
    obtain rfl := of_decide_eq_true hmode
    rfl
  | byteSysexEndSpurious =>
    cases h
    exact congrArg Except.ok (if_neg (of_decide_eq_true hmode))
  | byteSysexStart | byteTimeCodeQuarterFrame | byteSongPositionPointer | byteSongSelect | byteUndefinedF4
  | byteUndefinedF5 | byteTuneRequest | byteTimingClock | byteMeasureEnd
  | byteStart | byteContinue | byteStop | byteUndefinedFD | byteActiveSensing | byteSystemReset =>
    cases h
    rfl
  | _ => cases h

/-- The record of a channel-voice row is read from its kind nibble. -/
theorem decodeRecord_append {cable cin kind ch : U4} {b1 b2 : Byte} {i : Instr}
    (h : ∀ b0 : Byte, b0.extractLsb' 4 4 = kind → b0.extractLsb' 0 4 = ch →
      decodeRecord { cable, cin, b0, b1, b2 } = i) :
    decodeRecord { cable, cin, b0 := kind ++ ch, b1, b2 } = i :=
  h _ (highNibble_append kind ch) (lowNibble_append kind ch)

/-- The record of a row with a data byte in b0 is read from its field. -/
theorem decodeRecord_dataByte {cable cin : U4} {d0 : U7} {b1 b2 : Byte} {i : Instr}
    (h : ∀ b0 : Byte, b0 ≠ 0xF0 → b0 < 0x80 → b0.extractLsb' 0 7 = d0 →
      decodeRecord { cable, cin, b0, b1, b2 } = i) :
    decodeRecord { cable, cin, b0 := dataByte d0, b1, b2 } = i := by
  have hlt : dataByte d0 < 0x80 := fieldByte_lt d0
  have hne : dataByte d0 ≠ 0xF0 := by rintro he; rw [he] at hlt; exact absurd hlt (by decide)
  have hfield : (dataByte d0).extractLsb' 0 7 = d0 := by
    rw [← BitVec.setWidth_eq_extractLsb' (by decide)]
    exact bodyField_fieldByte d0
  exact h _ hne hlt hfield

/-- Each packet row is the one its record selects (R112). -/
theorem decode_encode_of_usb (mode : ParserMode) {i : Instr} {w0 w1 w2 w3 : Byte} (h : encode i = .usb w0 w1 w2 w3) :
    decode mode (encode i) = .ok i := by
  cases i with
  | pktNoteOff | pktNoteOn | pktNotePressure | pktControlChange | pktProgramChange | pktChannelPressure
  | pktPitchBend =>
    refine (decode_usbRecord mode _ _ _ _ _).trans (congrArg Except.ok (decodeRecord_append fun b0 hkind hch => ?_))
    subst hch
    exact if_pos hkind
  | pktSysexCont | pktSysexEnd1 | pktSysexEnd2 =>
    refine (decode_usbRecord mode _ _ _ _ _).trans
      (congrArg Except.ok (decodeRecord_dataByte fun b0 hne hlt hfield => ?_))
    subst hfield
    exact (if_neg hne).trans (if_pos hlt)
  | pktTimeCodeQuarterFrame | pktSongSelect | pktSongPositionPointer | pktSysexBegin | pktTuneRequest | pktSysexEnd
  | pktSysexEmpty | pktSysexSingleByte | pktTimingClock | pktMeasureEnd | pktStart | pktContinue | pktStop
  | pktActiveSensing | pktSystemReset => exact decode_usbRecord mode _ _ _ _ _
  | _ => cases h

/-- Each operation is read back from its code and operands (R117). -/
theorem decode_encode_of_command (mode : ParserMode) {i : Instr} {code : Byte} {operands : List Operand}
    (h : encode i = .command code operands) : decode mode (encode i) = .ok i := by
  cases i with
  | cull n v | fill n v | fromDirect n v | toWide n v => exact decode_command_of_read mode rfl (widthNat_bits _ n v)
  | u14FromPair a b => exact decode_command_of_read mode rfl (twoBytes_toNat _ a b)
  | u14ToPair v | channelToExternal v | payloadLen v | isData v | isStatus v | isChannelVoice v | isRealtime v
  | classify v | channelOf v | parseByte v => exact decode_command_of_read mode rfl (oneWord_toNat _ v)
  | packetMake cable cin bs => exact decode_command_of_read mode rfl (cableCinBytes_toNat _ cable cin bs)
  | packetFromWire a b c d => exact decode_command_of_read mode rfl (fourBytes_toNat _ a b c d)
  | packetToWire p | packetPayload p | rcSerialize p | decodePacket p =>
    exact decode_command_of_read mode rfl (onePacket_fields _ p)
  | rcPack bs | tokenFrame bs => exact decode_command_of_read mode rfl (oneBytes_map_toNat _ bs)
  | encodeMessage cable m => exact decode_command_of_read mode rfl (cableMessage_messageOperand _ cable m)
  | captureStep m => exact decode_command_of_read mode rfl (oneMessage_messageOperand _ m)
  | tokenFlatten program => exact decode_command_of_read mode rfl (oneProgram_programOperand _ program)
  | genStart program cable => exact decode_command_of_read mode rfl (programCable_programOperand _ program cable)
  | matchProgram buf program => exact decode_command_of_read mode rfl (bytesProgram_programOperand _ buf program)
  | channelFromExternal | cableFromInt | cinFromInt | expectedLen | rcReset | parserReset | captureRead | captureClear
  | genNext | genRestart => exact decode_command_of_read mode rfl rfl
  | _ => cases h

/-! ### The obligations -/

/-- Settles O55: by the input the instruction stands for. -/
theorem decodeEncodeAgree : Obligations.DecodeEncodeAgree := by
  intro mode i hmode
  cases hinput : encode i with
  | command code operands => exact hinput ▸ decode_encode_of_command mode hinput
  | serial b => exact decode_encode_of_serial hmode hinput
  | usb w0 w1 w2 w3 => exact hinput ▸ decode_encode_of_usb mode hinput

/-- Settles O58: the selected row stands for the byte, and a row does what PARSE_BYTE of its byte does. -/
theorem serialBytesAreParsed : Obligations.SerialBytesAreParsed := by
  intro s b v
  rw [field_eq_fieldByte]
  obtain ⟨hencode, hmode⟩ := encode_decodeSerial s.pu.mode b
  exact ⟨⟨_, rfl, hmode, exec_of_encode_serial hencode s⟩, exec_of_encode_serial rfl s, exec_of_encode_serial rfl s,
    exec_of_encode_serial rfl s, exec_of_encode_serial rfl s, exec_of_encode_serial rfl s⟩

/-- Settles O59: the packet of the statement is the one the decoder reads. -/
theorem usbRecordsAreDecoded : Obligations.UsbRecordsAreDecoded := by
  intro mode w0 w1 w2 w3 s
  rw [← highNibble_eq_ofNat, ← lowNibble_eq_ofNat]
  exact ⟨_, rfl, exec_decodeUsb w0 w1 w2 w3 s⟩

end Sys2Proof.Machine
end

section
/-! What an instruction writes (spec/10_state.md R30): the elements of its unit and its result, with the invariants of
those elements kept (R32, R34, R35, R38); then what follows for the whole machine. -/

open Sys2Proof.Stated

namespace Sys2Proof.Machine

/-! ### What holds where an operation completes -/

/-- Whenever the outcome is a next state, `Q` holds of it. -/
def OnNext (Q : State → Prop) (r : StepOutcome) : Prop := ∀ t, r = .next t → Q t

section
variable {Q : State → Prop}

theorem onNext_next {t : State} (hq : Q t) : OnNext Q (.next t) := fun _ h => Host.Outcome.next.inj h ▸ hq

theorem onNext_refused (r : Refusal) : OnNext Q (.refused r) := fun _ h => by cases h

theorem onNext_conclude {s : State} (hq : ∀ o, Q (s.setOutput (some o))) (r : Except ErrorKind Value) :
    OnNext Q (conclude r s) := by
  cases r with
  | ok v => exact onNext_next (hq (.ok v))
  | error e => exact onNext_next (hq (.err e))

theorem onNext_ite {p : Prop} [Decidable p] {a b : StepOutcome} (ha : p → OnNext Q a) (hb : ¬ p → OnNext Q b) :
    OnNext Q (if p then a else b) := by
  split
  · next h => exact ha h
  · next h => exact hb h

end

/-! ### The writes of each unit -/

/-- Nothing but the result is written. -/
def WritesResult (s t : State) : Prop := ∃ o, t = s.setOutput (some o)

/-- `PU.state` is written, within R32. -/
def WritesParser (s t : State) : Prop :=
  ∃ pu o, t = (s.setPu pu).setOutput (some o) ∧ (s.pu.inv = true → pu.inv = true)

/-- `RC.last_status` is written, within R34. -/
def WritesCompressor (s t : State) : Prop :=
  ∃ last o, t = (s.setRcLast last).setOutput (some o) ∧ (compressorInv s.rcLast = true → compressorInv last = true)

/-- `SC.buf` is written, within R35 and R36. -/
def WritesCapture (s t : State) : Prop :=
  ∃ buf o, t = (s.setScBuf buf).setOutput (some o) ∧
    (Memory.wf s.params.captureCapacity s.scBuf = true → Memory.wf s.params.captureCapacity buf = true)

/-- The generator's three elements are written, within R38. -/
def WritesGenerator (s t : State) : Prop :=
  ∃ msgs cable k o, t = (((s.setTgMsgs msgs).setTgCable cable).setTgK k).setOutput (some o) ∧ generatorInv msgs k = true

/-- `TG.k` alone is written, within R38. -/
def WritesPosition (s t : State) : Prop :=
  ∃ k o, t = (s.setTgK k).setOutput (some o) ∧
    (generatorInv s.tgMsgs s.tgK = true → generatorInv s.tgMsgs k = true)

/-- The written-by column of R30. -/
def Writes (i : Instr) (s t : State) : Prop :=
  if isParserInstr i then WritesParser s t
  else
    match i with
    | .rcPack _ => WritesCompressor s t
    | .rcSerialize _ => WritesCompressor s t
    | .rcReset => WritesCompressor s t
    | .captureStep _ => WritesCapture s t
    | .captureClear => WritesCapture s t
    | .genStart _ _ => WritesGenerator s t
    | .genNext => WritesPosition s t
    | .genRestart => WritesPosition s t
    | _ => WritesResult s t

theorem conclude_writes (r : Except ErrorKind Value) (s : State) : OnNext (WritesResult s) (conclude r s) :=
  onNext_conclude (Q := WritesResult s) (fun o => ⟨o, rfl⟩) r

theorem execParseByte_writes (b : Byte) (s : State) : OnNext (WritesParser s) (exec (.parseByte b) s) := by
  intro t h
  obtain ⟨pu, o, rfl⟩ := execParseByte_next h
  refine ⟨pu, o, rfl, fun hinv => ?_⟩
  obtain ⟨pu', o', hstep, heq⟩ := parserStep_of_exec hinv h
  have hpu : pu = pu' := congrArg State.pu heq
  exact hpu ▸ hstep.inv_next hinv

theorem packPayload_writes (first : Byte) (rest : List Byte) (s : State) :
    OnNext (WritesCompressor s) (packPayload first rest s) :=
  onNext_ite
    (fun hvoice => onNext_ite (fun _ => onNext_next ⟨s.rcLast, _, rfl, id⟩)
      fun _ => onNext_next ⟨some first, _, rfl, fun _ => hvoice⟩)
    fun _ => onNext_next ⟨none, _, rfl, fun _ => rfl⟩

theorem execRcPack_writes (payload : List Byte) (s : State) : OnNext (WritesCompressor s) (execRcPack payload s) := by
  cases payload with
  | nil => exact onNext_refused _
  | cons first rest => exact onNext_ite (fun _ => packPayload_writes first rest s) fun _ => onNext_refused _

theorem execRcSerialize_writes (p : Packet) (s : State) : OnNext (WritesCompressor s) (execRcSerialize p s) := by
  unfold execRcSerialize
  split
  · exact onNext_next ⟨s.rcLast, _, rfl, id⟩
  · exact execRcPack_writes _ s

/-- APPEND of body bytes to `buf₀`, which is the buffer or the cleared one. -/
theorem captureAppend_writes {s : State} {buf₀ bytes : List Byte}
    (hbuf : Memory.wf s.params.captureCapacity s.scBuf = true → Memory.wf s.params.captureCapacity buf₀ = true)
    (hbytes : ∀ b ∈ bytes, b.toNat < 0x80) (result : Nat → CaptureResult) :
    OnNext (WritesCapture s) (captureAppend bytes result (s.setScBuf buf₀)) := by
  rw [captureAppend_eq]
  refine onNext_ite (fun _ => onNext_next ⟨[], _, rfl, fun _ => memory_wf_nil _⟩) fun hfits =>
    onNext_next ⟨buf₀ ++ bytes, _, rfl, fun hwf => ?_⟩
  rw [State.setScBuf_scBuf, State.setScBuf_params, Nat.not_lt, ← List.length_append] at hfits
  obtain ⟨-, hbody⟩ := memory_wf_iff.mp (hbuf hwf)
  exact memory_wf_iff.mpr ⟨hfits, fun b hb => (List.mem_append.mp hb).elim (hbody b) (hbytes b)⟩

theorem fieldBytes_lt {ds : List U7} : ∀ b ∈ ds.map fieldByte, b.toNat < 0x80 := by
  intro b hb
  obtain ⟨d, -, rfl⟩ := List.mem_map.mp hb
  exact fieldByte_lt d

theorem execCaptureStep_writes (m : Message) (s : State) : OnNext (WritesCapture s) (execCaptureStep m s) := by
  have hsame : ∀ o, WritesCapture s (s.setOutput (some o)) := fun o => ⟨s.scBuf, o, rfl, id⟩
  have hclear : ∀ o, WritesCapture s ((s.setScBuf []).setOutput (some o)) := fun o =>
    ⟨[], o, rfl, fun _ => memory_wf_nil _⟩
  cases m with
  | sysexBegin d0 d1 =>
    dsimp only [execCaptureStep]
    exact captureAppend_writes (s := s) (fun _ => memory_wf_nil _) (fieldBytes_lt (ds := [d0, d1])) _
  | sysexSingleByte d0 =>
    dsimp only [execCaptureStep]
    exact captureAppend_writes (s := s) (fun _ => memory_wf_nil _) (fieldBytes_lt (ds := [d0])) _
  | sysexCont d0 d1 d2 =>
    exact onNext_ite (fun _ => onNext_next (hsame _)) fun _ =>
      captureAppend_writes (buf₀ := s.scBuf) id (fieldBytes_lt (ds := [d0, d1, d2])) _
  | sysexEnd1 d0 =>
    exact onNext_ite (fun _ => onNext_next (hsame _)) fun _ =>
      captureAppend_writes (buf₀ := s.scBuf) id (fieldBytes_lt (ds := [d0])) _
  | sysexEnd2 d0 d1 =>
    exact onNext_ite (fun _ => onNext_next (hsame _)) fun _ =>
      captureAppend_writes (buf₀ := s.scBuf) id (fieldBytes_lt (ds := [d0, d1])) _
  | sysexEnd => exact onNext_ite (fun _ => onNext_next (hsame _)) fun _ => onNext_next (hsame _)
  | _ => exact onNext_next (hclear _)

theorem generatorInv_iff {msgs : List Message} {k : Nat} :
    generatorInv msgs k = true ↔ msgs.all isSysexFragment = true ∧ k ≤ msgs.length := by
  rw [generatorInv, Bool.and_eq_true, decide_eq_true_iff]

theorem execGenStart_writes (program : List Token) (cable : U4) (s : State) :
    OnNext (WritesGenerator s) (execGenStart program cable s) :=
  onNext_ite
    (fun _ => onNext_next ⟨_, cable, 0, _, rfl, generatorInv_iff.mpr ⟨frame_fragments _, Nat.zero_le _⟩⟩)
    fun _ => onNext_refused _

theorem execGenNext_writes (s : State) : OnNext (WritesPosition s) (execGenNext s) := by
  unfold execGenNext
  split
  · exact onNext_next ⟨s.tgK, _, rfl, id⟩
  · next m hm =>
    obtain ⟨hlt, -⟩ := List.getElem?_eq_some_iff.mp hm
    exact onNext_next ⟨s.tgK + 1, _, rfl, fun hinv => generatorInv_iff.mpr ⟨(generatorInv_iff.mp hinv).1, hlt⟩⟩

/-! ### The dispatch -/

/-- Every instruction that completes has written what its row of R30 says and no more, row by row. -/
theorem exec_writes (i : Instr) (s : State) : OnNext (Writes i s) (exec i s) := by
  cases i with
  | parseByte b => exact execParseByte_writes b s
  | byteNoteOff | byteNoteOn | byteNotePressure | byteControlChange | byteProgramChange | byteChannelPressure
  | bytePitchBend | byteSysexStart | byteTimeCodeQuarterFrame | byteSongPositionPointer | byteSongSelect
  | byteUndefinedF4 | byteUndefinedF5 | byteTuneRequest | byteSysexEndInSysex | byteSysexEndSpurious | byteDataIdle
  | byteDataAwaitingData | byteDataInSysex =>
    rw [exec_of_encode_serial rfl]
    exact execParseByte_writes _ s
  | parserReset => exact onNext_next ⟨.idle, _, rfl, fun _ => rfl⟩
  | rcPack payload => exact execRcPack_writes payload s
  | rcSerialize p => exact execRcSerialize_writes p s
  | rcReset => exact onNext_next ⟨none, _, rfl, fun _ => rfl⟩
  | captureStep m => exact execCaptureStep_writes m s
  | captureClear => exact onNext_next ⟨[], _, rfl, fun _ => memory_wf_nil _⟩
  | genStart program cable => exact execGenStart_writes program cable s
  | genNext => exact execGenNext_writes s
  | genRestart =>
    exact onNext_next ⟨0, _, rfl, fun hinv => generatorInv_iff.mpr ⟨(generatorInv_iff.mp hinv).1, Nat.zero_le _⟩⟩
  | captureRead =>
    dsimp only [exec]
    rw [execCaptureRead_eq]
    exact onNext_next ⟨_, rfl⟩
  | toWide | packetMake | tokenFlatten | tokenFrame =>
    exact onNext_ite (fun _ => onNext_next ⟨_, rfl⟩) fun _ => onNext_refused _
  | matchProgram => exact onNext_ite (fun _ => conclude_writes _ s) fun _ => onNext_refused _
  | fromDirect | u14FromPair | channelFromExternal | cableFromInt | cinFromInt | packetPayload | classify
  | decodePacket => exact conclude_writes _ s
  | pktNoteOff | pktNoteOn | pktNotePressure | pktControlChange | pktProgramChange | pktChannelPressure | pktPitchBend
  | pktTimeCodeQuarterFrame | pktSongSelect | pktSongPositionPointer | pktSysexBegin | pktSysexCont | pktTuneRequest
  | pktSysexEnd | pktSysexEmpty | pktSysexEnd1 | pktSysexSingleByte | pktSysexEnd2 | pktTimingClock | pktMeasureEnd
  | pktStart | pktContinue | pktStop | pktActiveSensing | pktSystemReset =>
    rw [exec_of_encode_usb rfl]
    exact conclude_writes _ s
  | cull | fill | u14ToPair | channelToExternal | packetFromWire | packetToWire | payloadLen | isData | isStatus
  | isChannelVoice | isRealtime | expectedLen | channelOf | encodeMessage | byteTimingClock | byteMeasureEnd
  | byteStart | byteContinue | byteStop | byteUndefinedFD | byteActiveSensing | byteSystemReset =>
    exact onNext_next ⟨_, rfl⟩

/-! ### What follows from the writes -/

/-- The units an instruction can write, by cases on its row of R30. -/
theorem Writes.cases {i : Instr} {s t : State} (h : Writes i s t) :
    (isParserInstr i = true ∧ WritesParser s t) ∨
    (((∃ payload, i = .rcPack payload) ∨ (∃ p, i = .rcSerialize p) ∨ i = .rcReset) ∧ WritesCompressor s t) ∨
    (((∃ m, i = .captureStep m) ∨ i = .captureClear) ∧ WritesCapture s t) ∨
    ((∃ program cable, i = .genStart program cable) ∧ WritesGenerator s t) ∨
    ((i = .genNext ∨ i = .genRestart) ∧ WritesPosition s t) ∨ WritesResult s t := by
  unfold Writes at h
  split at h
  · next hparser => exact .inl ⟨hparser, h⟩
  · split at h <;> simp [h]

/-- Settles O51: an instruction that may not write an element's unit has written another, or its result alone. -/
theorem onlyItsUnitWritesAnElement : Obligations.OnlyItsUnitWritesAnElement := by
  intro i s t h
  rcases (exec_writes i s t h).cases with ⟨hi, pu, o, rfl, -⟩ | ⟨hi, last, o, rfl, -⟩ | ⟨hi, buf, o, rfl, -⟩ |
    ⟨⟨program, cable, rfl⟩, msgs, cable', k, o, rfl, -⟩ | ⟨hi, k, o, rfl, -⟩ | ⟨o, rfl⟩
  · refine ⟨rfl, rfl, fun hn => ?_, fun _ _ _ => rfl, fun _ _ => rfl, fun _ => ⟨rfl, rfl⟩, fun _ _ _ => rfl⟩
    rw [hi] at hn
    cases hn
  · refine ⟨rfl, rfl, fun _ => rfl, fun hpack hser hreset => ?_, fun _ _ => rfl, fun _ => ⟨rfl, rfl⟩, fun _ _ _ => rfl⟩
    rcases hi with ⟨payload, rfl⟩ | ⟨p, rfl⟩ | rfl
    · exact absurd rfl (hpack payload)
    · exact absurd rfl (hser p)
    · exact absurd rfl hreset
  · refine ⟨rfl, rfl, fun _ => rfl, fun _ _ _ => rfl, fun hstep hclear => ?_, fun _ => ⟨rfl, rfl⟩, fun _ _ _ => rfl⟩
    rcases hi with ⟨m, rfl⟩ | rfl
    · exact absurd rfl (hstep m)
    · exact absurd rfl hclear
  · exact ⟨rfl, rfl, fun _ => rfl, fun _ _ _ => rfl, fun _ _ => rfl, fun hstart => absurd rfl (hstart program cable),
      fun hstart => absurd rfl (hstart program cable)⟩
  · refine ⟨rfl, rfl, fun _ => rfl, fun _ _ _ => rfl, fun _ _ => rfl, fun _ => ⟨rfl, rfl⟩, fun _ hnext hrestart => ?_⟩
    rcases hi with rfl | rfl
    · exact absurd rfl hnext
    · exact absurd rfl hrestart
  · exact ⟨rfl, rfl, fun _ => rfl, fun _ _ _ => rfl, fun _ _ => rfl, fun _ => ⟨rfl, rfl⟩, fun _ _ _ => rfl⟩

/-- An instruction that completes has a result (R401). -/
theorem Writes.output_isSome {i : Instr} {s t : State} (h : Writes i s t) : t.output.isSome = true := by
  rcases h.cases with ⟨-, _, _, rfl, -⟩ | ⟨-, _, _, rfl, -⟩ | ⟨-, _, _, rfl, -⟩ | ⟨-, _, _, _, _, rfl, -⟩ |
    ⟨-, _, _, rfl, -⟩ | ⟨_, rfl⟩ <;> rfl

theorem State.inv_iff {s : State} :
    s.inv = true ↔ s.pu.inv = true ∧ compressorInv s.rcLast = true ∧
      Memory.wf s.params.captureCapacity s.scBuf = true ∧ generatorInv s.tgMsgs s.tgK = true := by
  simp only [State.inv, Bool.and_eq_true, and_assoc]

/-- What is written keeps the invariants of its unit; the rest is as it was. -/
theorem Writes.inv {i : Instr} {s t : State} (h : Writes i s t) (hinv : s.inv = true) : t.inv = true := by
  obtain ⟨hpu, hrc, hsc, htg⟩ := State.inv_iff.mp hinv
  rw [State.inv_iff]
  rcases h.cases with ⟨-, pu, o, rfl, hkeep⟩ | ⟨-, last, o, rfl, hkeep⟩ | ⟨-, buf, o, rfl, hkeep⟩ |
    ⟨-, msgs, cable, k, o, rfl, hgen⟩ | ⟨-, k, o, rfl, hkeep⟩ | ⟨o, rfl⟩
  · exact ⟨hkeep hpu, hrc, hsc, htg⟩
  · exact ⟨hpu, hkeep hrc, hsc, htg⟩
  · exact ⟨hpu, hrc, hkeep hsc, htg⟩
  · exact ⟨hpu, hrc, hsc, hgen⟩
  · exact ⟨hpu, hrc, hsc, hkeep htg⟩
  · exact ⟨hpu, hrc, hsc, htg⟩

/-- A step waits, runs the instruction its next input decodes to, or issues two inputs in order (R80, R441). -/
theorem step_next_cases {s t : State} (h : step s = .next t) :
    t = s ∨ (∃ rest i, exec i (s.setPending rest) = .next t) ∨ ∃ rest, t = s.setPending rest := by
  unfold step at h
  split at h
  · exact .inl (Host.Outcome.next.inj h).symm
  · split at h
    · exact .inr (.inl ⟨_, _, h⟩)
    · cases h
  · split at h
    · cases h
    · exact .inr (.inr ⟨_, (Host.Outcome.next.inj h).symm⟩)
  · cases h

/-- Settles O48: pending events are in no invariant, and an instruction's writes keep each. -/
theorem stepKeepsTheInvariants : Obligations.StepKeepsTheInvariants := by
  intro s t hinv h
  rcases step_next_cases h with rfl | ⟨rest, i, hexec⟩ | ⟨rest, rfl⟩
  · exact hinv
  · exact (exec_writes i _ t hexec).inv hinv
  · exact hinv

/-- A newly built machine meets the invariants: no byte, no message and no status is held (R43). -/
theorem State.initial_inv (params : Params) : (State.initial params).inv = true :=
  State.inv_iff.mpr ⟨rfl, rfl, initial_memory_wf params, rfl⟩

/-- Settles O49: reset is a construction. -/
theorem resetMeetsTheInvariants : Obligations.ResetMeetsTheInvariants :=
  ⟨State.initial_inv Params.default, State.initial_inv⟩

end Sys2Proof.Machine
end

section
/-! Which instructions complete, which are refused, and which errors each can raise (spec/60_exceptions.md R400, R401,
R409). -/

open Sys2Proof.Stated

namespace Sys2Proof.Machine

/-! ### Completion (R401) -/

theorem conclude_completes (r : Except ErrorKind Value) (s : State) : ∃ t, conclude r s = .next t := by
  cases r <;> exact ⟨_, rfl⟩

theorem execGenNext_completes (s : State) : ∃ t, execGenNext s = .next t := by
  unfold execGenNext
  split <;> exact ⟨_, rfl⟩

theorem exec_rcSerialize_completes (p : Packet) (s : State) : ∃ t, exec (.rcSerialize p) s = .next t := by
  cases h : payloadLenOf p.cin with
  | none => exact ⟨_, exec_rcSerialize_of_none h s⟩
  | some n => exact exec_rcSerialize_of_some h s ▸ exec_rcPack_take_next h s

theorem exec_parseByte_completes {s : State} (hinv : s.pu.inv = true) (b : Byte) :
    ∃ t, exec (.parseByte b) s = .next t := by
  obtain ⟨_, _, -, hexec⟩ := exec_parseByte_cases hinv b
  exact ⟨_, hexec⟩

/-- RC_PACK's operand has 1 to 3 bytes (R216). -/
theorem wellFormed_rcPack_iff {payload : List Byte} :
    (Instr.rcPack payload).wellFormed = true ↔ ∃ first rest, payload = first :: rest ∧ rest.length ≤ 2 := by
  cases payload <;> simp [Instr.wellFormed, Nat.lt_succ_iff]

/-- In a parser state R32 allows, every well-formed instruction completes, row by row. -/
theorem exec_completes {i : Instr} {s : State} (hinv : s.pu.inv = true) (hwf : i.wellFormed = true) :
    ∃ t, exec i s = .next t := by
  cases i with
  | parseByte b => exact exec_parseByte_completes hinv b
  | byteNoteOff | byteNoteOn | byteNotePressure | byteControlChange | byteProgramChange | byteChannelPressure
  | bytePitchBend | byteTimeCodeQuarterFrame | byteSongPositionPointer | byteSongSelect | byteUndefinedF4
  | byteUndefinedF5 | byteTuneRequest | byteSysexEndInSysex | byteSysexEndSpurious | byteDataIdle
  | byteDataAwaitingData | byteDataInSysex =>
    rw [exec_of_encode_serial rfl]
    exact exec_parseByte_completes hinv _
  | rcPack payload =>
    obtain ⟨first, rest, rfl, hlen⟩ := wellFormed_rcPack_iff.mp hwf
    exact ⟨_, exec_rcPack_cons hlen first s⟩
  | rcSerialize p => exact exec_rcSerialize_completes p s
  | captureStep m =>
    obtain ⟨_, _, h⟩ := execCaptureStep_next m s
    exact ⟨_, h⟩
  | captureRead => exact ⟨_, execCaptureRead_eq s⟩
  | genNext => exact execGenNext_completes s
  | toWide | packetMake => exact ⟨_, if_pos (of_decide_eq_true hwf)⟩
  | tokenFlatten | tokenFrame | genStart => exact ⟨_, if_pos hwf⟩
  | matchProgram buf program =>
    rw [exec_matchProgram_of_wellFormed hwf]
    exact conclude_completes _ s
  | fromDirect | u14FromPair | channelFromExternal | cableFromInt | cinFromInt | packetPayload | classify
  | decodePacket => exact conclude_completes _ s
  | pktNoteOff | pktNoteOn | pktNotePressure | pktControlChange | pktProgramChange | pktChannelPressure | pktPitchBend
  | pktTimeCodeQuarterFrame | pktSongSelect | pktSongPositionPointer | pktSysexBegin | pktSysexCont | pktTuneRequest
  | pktSysexEnd | pktSysexEmpty | pktSysexEnd1 | pktSysexSingleByte | pktSysexEnd2 | pktTimingClock | pktMeasureEnd
  | pktStart | pktContinue | pktStop | pktActiveSensing | pktSystemReset =>
    rw [exec_of_encode_usb rfl]
    exact conclude_completes _ s
  | cull | fill | u14ToPair | channelToExternal | packetFromWire | packetToWire | payloadLen | isData | isStatus
  | isChannelVoice | isRealtime | expectedLen | channelOf | rcReset | parserReset | encodeMessage | captureClear
  | genRestart | byteSysexStart | byteTimingClock | byteMeasureEnd | byteStart | byteContinue | byteStop
  | byteUndefinedFD | byteActiveSensing | byteSystemReset => exact ⟨_, rfl⟩

/-! ### Refusal (R409) -/

/-- RC_PACK refuses a payload of no byte and one of more than three. -/
theorem exec_rcPack_refused {payload : List Byte} (h : (Instr.rcPack payload).wellFormed = false) (s : State) :
    ∃ r, exec (.rcPack payload) s = .refused r := by
  cases payload with
  | nil => exact ⟨_, rfl⟩
  | cons first rest =>
    have hlen : ¬ rest.length ≤ 2 := fun hle =>
      ne_true_of_eq_false h (wellFormed_rcPack_iff.mpr ⟨first, rest, rfl, hle⟩)
    exact ⟨_, if_neg hlen⟩

/-- Every instruction that is not well-formed is refused by its own check. -/
theorem exec_refused {i : Instr} (hwf : i.wellFormed = false) (s : State) : ∃ r, exec i s = .refused r := by
  cases i with
  | toWide | packetMake => exact ⟨_, if_neg (of_decide_eq_false hwf)⟩
  | rcPack payload => exact exec_rcPack_refused hwf s
  | tokenFlatten | tokenFrame | genStart | matchProgram => exact ⟨_, if_neg (ne_true_of_eq_false hwf)⟩
  | _ => cases hwf

/-- Settles O47: row by row, and what completes has written a result. -/
theorem wellFormedInstructionsComplete : Obligations.WellFormedInstructionsComplete := by
  refine fun i s hinv => ⟨fun hwf => ?_, fun hwf => exec_refused hwf s⟩
  obtain ⟨t, h⟩ := exec_completes (State.inv_iff.mp hinv).1 hwf
  exact ⟨t, h, (exec_writes i s t h).output_isSome⟩

/-! ### Errors (R400) -/

theorem onError_conclude_of_error {Q : ErrorKind → State → Prop} {r : Except ErrorKind Value} {s : State}
    (hq : ∀ e, r = .error e → Q e (s.setOutput (some (.err e)))) : OnError Q (conclude r s) := by
  cases r with
  | ok v => exact onError_finish v s
  | error e => exact onError_raise (hq e rfl)

/-- A range check raises the one error it names. -/
theorem onError_concludeNat_ite {Q : ErrorKind → State → Prop} {p : Prop} [Decidable p] {e : ErrorKind} {v : Nat}
    {s : State} (hq : Q e (s.setOutput (some (.err e)))) :
    OnError Q (concludeNat (if p then .error e else .ok v) s) := by
  split
  · exact onError_raise hq
  · exact onError_finish _ s

/-- An error of the instruction is one R400 names for it. -/
def RaisedBy (i : Instr) (e : ErrorKind) (_ : State) : Prop := raisedBy e i

theorem payloadOf_error {p : Packet} {e : ErrorKind} (h : payloadOf p = .error e) : e = .badPacket p := by
  unfold payloadOf at h
  split at h <;> cases h
  rfl

theorem messageOfPacket_error {policy : DataPolicy} {p : Packet} {e : ErrorKind}
    (h : messageOfPacket policy p = .error e) : e = .badPacket p := by
  unfold messageOfPacket decodeAs at h
  repeat' split at h
  all_goals cases h
  all_goals rfl

theorem classifyByte_error {b : Byte} {e : ErrorKind} (h : classifyByte b = .error e) : e = .invalidStatus b := by
  unfold classifyByte at h
  split_ifs at h
  cases h
  rfl

theorem map_eq_error {α β : Type} {f : α → β} {r : Except ErrorKind α} {e : ErrorKind} (h : r.map f = .error e) :
    r = .error e := by
  cases r <;> cases h
  rfl

/-- The header byte is the cable's nibble above the framing code's (R70). -/
theorem headerByte_eq_append (p : Packet) : headerByte p = p.cable ++ p.cin := by
  have happend : ∀ cable cin : U4, cable.setWidth 8 <<< 4 ||| cin.setWidth 8 = cable ++ cin := by decide
  exact happend p.cable p.cin

theorem headerByte_packetOfWire (w0 w1 w2 w3 : Byte) : headerByte (packetOfWire w0 w1 w2 w3) = w0 :=
  (headerByte_eq_append _).trans (highNibble_append_lowNibble w0)

/-- DECODE's error carries the packet, which a row names by the bytes it stands for (R282). -/
theorem execDecodePacket_raisedBy {i : Instr} {p : Packet} (hi : raisedBy (.badPacket p) i) (s : State) :
    OnError (RaisedBy i) (exec (.decodePacket p) s) := by
  refine onError_conclude_of_error fun e he => ?_
  rw [messageOfPacket_error (map_eq_error he)]
  exact hi

theorem exec_usb_raisedBy {i : Instr} {w0 w1 w2 w3 : Byte} (hi : encode i = .usb w0 w1 w2 w3) (s : State) :
    OnError (RaisedBy i) (exec i s) := by
  have hrecord : raisedBy (.badPacket (packetOfWire w0 w1 w2 w3)) i := by
    refine .inr (.inr (.inr ?_))
    rw [← headerByte_eq_ofNat, headerByte_packetOfWire]
    exact hi
  rw [exec_of_encode_usb hi]
  exact execDecodePacket_raisedBy hrecord s

/-- PARSE_BYTE's errors carry the byte (R244, R246). -/
theorem ParserStep.raisedBy {params : Params} {pu pu' : ParserState} {b : Byte} {o : OpResult} {e : ErrorKind}
    (h : ParserStep params pu b pu' o) (ho : o = .err e) {i : Instr} (hi : i = .parseByte b ∨ encode i = .serial b) :
    raisedBy e i := by
  cases h with
  | realtime | sysexStart | sysexEnd | status | single | last | notLast | third | notThird => cases ho
  | spuriousEnd =>
    cases ho
    exact ⟨rfl, hi⟩
  | noStatus hb =>
    cases ho
    exact .inr ⟨hb, hi⟩

theorem exec_parseByte_raisedBy {i : Instr} {b : Byte} {s : State} (hinv : s.pu.inv = true)
    (hi : i = .parseByte b ∨ encode i = .serial b) : OnError (RaisedBy i) (exec (.parseByte b) s) := by
  intro t e h hout
  obtain ⟨pu, o, hstep, rfl⟩ := parserStep_of_exec hinv h
  exact hstep.raisedBy (Option.some.inj hout) hi

theorem exec_serial_raisedBy {i : Instr} {b : Byte} {s : State} (hinv : s.pu.inv = true) (hi : encode i = .serial b) :
    OnError (RaisedBy i) (exec i s) := by
  rw [exec_of_encode_serial hi]
  exact exec_parseByte_raisedBy hinv (.inr hi)

theorem execRcSerialize_raisedBy (p : Packet) (s : State) :
    OnError (RaisedBy (.rcSerialize p)) (execRcSerialize p s) := by
  unfold execRcSerialize
  split
  · next e he => exact onError_raise (payloadOf_error he ▸ .inr (.inr (.inl rfl)))
  · exact execRcPack_onError _ s

theorem captureAppend_raisedBy (m : Message) (bytes : List Byte) (result : Nat → CaptureResult) (s : State) :
    OnError (RaisedBy (.captureStep m)) (captureAppend bytes result s) := by
  rw [captureAppend_eq]
  exact onError_ite (fun _ => onError_raise ⟨m, rfl⟩) fun _ => onError_finish _ _

theorem execCaptureStep_raisedBy (m : Message) (s : State) :
    OnError (RaisedBy (.captureStep m)) (execCaptureStep m s) := by
  cases m with
  | sysexBegin | sysexSingleByte =>
    dsimp only [execCaptureStep]
    exact captureAppend_raisedBy _ _ _ _
  | sysexCont d0 d1 d2 =>
    exact onError_ite (fun _ => onError_raise ⟨d0, d1, d2, rfl⟩) fun _ => captureAppend_raisedBy _ _ _ s
  | sysexEnd => exact onError_ite (fun _ => onError_raise (.inl rfl)) fun _ => onError_finish _ _
  | sysexEnd1 d0 =>
    exact onError_ite (fun _ => onError_raise (.inr (.inl ⟨d0, rfl⟩))) fun _ => captureAppend_raisedBy _ _ _ s
  | sysexEnd2 d0 d1 =>
    exact onError_ite (fun _ => onError_raise (.inr (.inr ⟨d0, d1, rfl⟩))) fun _ => captureAppend_raisedBy _ _ _ s
  | _ => exact onError_finish _ _

theorem matchBuffer_error {buf : List Byte} {program : List Token} {e : ErrorKind}
    (h : matchBuffer buf program = .error e) : e = .noMatch := by
  unfold matchBuffer at h
  split at h
  · cases h
    rfl
  · split at h <;> cases h
    rfl

theorem u14FromBytes_error {msb lsb : Byte} {e : ErrorKind} (h : u14FromBytes msb lsb = .error e) :
    e = .invalidValue .w14 [msb.toNat, lsb.toNat] := by
  unfold u14FromBytes at h
  split at h <;> cases h
  rfl

/-- Every error of an instruction is one R400 names for it, row by row. -/
theorem exec_raisedBy (i : Instr) {s : State} (hinv : s.pu.inv = true) : OnError (RaisedBy i) (exec i s) := by
  cases i with
  | parseByte b => exact exec_parseByte_raisedBy hinv (.inl rfl)
  | byteNoteOff | byteNoteOn | byteNotePressure | byteControlChange | byteProgramChange | byteChannelPressure
  | bytePitchBend | byteTimeCodeQuarterFrame | byteSongPositionPointer | byteSongSelect | byteUndefinedF4
  | byteUndefinedF5 | byteTuneRequest | byteSysexEndInSysex | byteSysexEndSpurious | byteDataIdle
  | byteDataAwaitingData | byteDataInSysex => exact exec_serial_raisedBy hinv rfl
  | decodePacket p => exact execDecodePacket_raisedBy (.inl rfl) s
  | pktNoteOff | pktNoteOn | pktNotePressure | pktControlChange | pktProgramChange | pktChannelPressure | pktPitchBend
  | pktTimeCodeQuarterFrame | pktSongSelect | pktSongPositionPointer | pktSysexBegin | pktSysexCont | pktTuneRequest
  | pktSysexEnd | pktSysexEmpty | pktSysexEnd1 | pktSysexSingleByte | pktSysexEnd2 | pktTimingClock | pktMeasureEnd
  | pktStart | pktContinue | pktStop | pktActiveSensing | pktSystemReset => exact exec_usb_raisedBy rfl s
  | packetPayload p =>
    exact onError_conclude_of_error fun e he => payloadOf_error (map_eq_error he) ▸ .inr (.inl rfl)
  | classify b => exact onError_conclude_of_error fun e he => classifyByte_error (map_eq_error he) ▸ .inl rfl
  | fromDirect n wide => exact onError_concludeNat_ite (.inl ⟨wide, rfl, rfl⟩)
  | u14FromPair msb lsb =>
    exact onError_conclude_of_error fun e he =>
      u14FromBytes_error (map_eq_error (map_eq_error he)) ▸ .inr ⟨msb, lsb, rfl, rfl, rfl⟩
  | channelFromExternal | cableFromInt | cinFromInt => exact onError_concludeNat_ite rfl
  | rcPack payload => exact execRcPack_onError payload s
  | rcSerialize p => exact execRcSerialize_raisedBy p s
  | captureStep m => exact execCaptureStep_raisedBy m s
  | captureRead => exact execCaptureRead_onError s
  | genNext => exact execGenNext_onError s
  | toWide | packetMake | tokenFlatten | tokenFrame | genStart =>
    exact onError_ite (fun _ => onError_finish _ _) fun _ => onError_refused _
  | matchProgram buf program =>
    exact onError_ite (fun _ => onError_conclude_of_error fun e he =>
      matchBuffer_error (map_eq_error he) ▸ ⟨buf, program, rfl⟩) fun _ => onError_refused _
  | cull | fill | u14ToPair | channelToExternal | packetFromWire | packetToWire | payloadLen | isData | isStatus
  | isChannelVoice | isRealtime | expectedLen | channelOf | rcReset | parserReset | encodeMessage | captureClear
  | genRestart | byteSysexStart | byteTimingClock | byteMeasureEnd | byteStart | byteContinue | byteStop
  | byteUndefinedFD | byteActiveSensing | byteSystemReset => exact onError_finish _ _

/-- No row of R400 names code 0x07 (SysexOutOfBounds). -/
theorem errorCode_of_raisedBy {e : ErrorKind} {i : Instr} (h : raisedBy e i) :
    errorCode e ∈ [0x01, 0x02, 0x03, 0x04, 0x05, 0x06, 0x08, 0x09, 0x0A, 0x0B] := by
  cases e with
  | sysexOutOfBounds => exact h.elim
  | _ => simp [errorCode]

/-- Settles O54: row by row. -/
theorem errorsComeFromTheirOperations : Obligations.ErrorsComeFromTheirOperations := by
  intro i s t e hinv hexec hout
  have h : raisedBy e i := exec_raisedBy i hinv t e hexec hout
  exact ⟨h, errorCode_of_raisedBy h⟩

end Sys2Proof.Machine
end

section
/-! The operand types of R117 (spec/30_encoding.md) against the decoder's readers: each reader accepts exactly the operands
of its types, so an assigned code decodes exactly those (R409). -/

open Sys2Proof.Stated

namespace Sys2Proof

/-! ### One operand -/

theorem narrow?_isSome (w n : Nat) : (narrow? w n).isSome = decide (n < 2 ^ w) := by
  unfold narrow?
  split <;> simp [*]

theorem width?_isSome (n : Nat) : (width? n).isSome = decide (n ∈ [4, 6, 7, 14]) := by
  unfold width?
  split <;> simp_all

theorem packet?_isSome (cable cin b0 b1 b2 : Nat) :
    (packet? cable cin b0 b1 b2).isSome = packetFieldsOperand (.packet cable cin b0 b1 b2) := by
  have hfields : (packet? cable cin b0 b1 b2).isSome =
      ((narrow? 4 cable).isSome && (narrow? 4 cin).isSome && (narrow? 8 b0).isSome && (narrow? 8 b1).isSome &&
        (narrow? 8 b2).isSome) := by
    unfold packet?
    cases narrow? 4 cable <;> cases narrow? 4 cin <;> cases narrow? 8 b0 <;> cases narrow? 8 b1 <;>
      cases narrow? 8 b2 <;> rfl
  simp [hfields, narrow?_isSome, packetFieldsOperand, Nat.lt_succ_iff, Bool.and_assoc]

theorem token?_isSome (t : TokenOf Nat) : (token? t).isSome = literalsAreBytes t := by
  cases t with
  | skip | cap => rfl
  | val n => simp [token?, narrow?_isSome, literalsAreBytes, Nat.lt_succ_iff]
  | seq ns => simp [token?, bytes?_isSome, literalsAreBytes]

theorem program?_isSome (ts : List (TokenOf Nat)) : (program? ts).isSome = ts.all literalsAreBytes := by
  induction ts with
  | nil => rfl
  | cons t ts ih =>
    rw [List.all_cons, ← token?_isSome, ← ih, program?]
    cases token? t <;> cases program? ts <;> rfl

/-! ### The fields of a message (R280) -/

theorem noField_isSome (m : Message) (fields : List Nat) : (noField m fields).isSome = fieldsFit [] fields := by
  cases fields <;> rfl

theorem oneField_isSome (f : U7 → Message) (fields : List Nat) : (oneField f fields).isSome = fieldsFit [7] fields := by
  match fields with
  | [] | _ :: _ :: _ => simp [oneField, fieldsFit]
  | [a] => simp [oneField, fieldsFit, narrow?_isSome]

theorem twoFields_isSome (f : U7 → U7 → Message) (fields : List Nat) :
    (twoFields f fields).isSome = fieldsFit [7, 7] fields := by
  match fields with
  | [] | [_] | _ :: _ :: _ :: _ => simp [twoFields, fieldsFit]
  | [a, b] =>
    simp only [twoFields, fieldsFit, ← narrow?_isSome]
    cases narrow? 7 a <;> cases narrow? 7 b <;> rfl

theorem threeFields_isSome (f : U7 → U7 → U7 → Message) (fields : List Nat) :
    (threeFields f fields).isSome = fieldsFit [7, 7, 7] fields := by
  match fields with
  | [] | [_] | [_, _] | _ :: _ :: _ :: _ :: _ => simp [threeFields, fieldsFit]
  | [a, b, c] =>
    simp only [threeFields, fieldsFit, ← narrow?_isSome]
    cases narrow? 7 a <;> cases narrow? 7 b <;> cases narrow? 7 c <;> rfl

theorem channelField_isSome (w : Nat) (f : U4 → BitVec w → Message) (fields : List Nat) :
    (channelField w f fields).isSome = fieldsFit [4, w] fields := by
  match fields with
  | [] | [_] | _ :: _ :: _ :: _ => simp [channelField, fieldsFit]
  | [ch, a] =>
    simp only [channelField, fieldsFit, ← narrow?_isSome]
    cases narrow? 4 ch <;> cases narrow? w a <;> rfl

theorem channelFields_isSome (f : U4 → U7 → U7 → Message) (fields : List Nat) :
    (channelFields f fields).isSome = fieldsFit [4, 7, 7] fields := by
  match fields with
  | [] | [_] | [_, _] | _ :: _ :: _ :: _ :: _ => simp [channelFields, fieldsFit]
  | [ch, a, b] =>
    simp only [channelFields, fieldsFit, ← narrow?_isSome]
    cases narrow? 4 ch <;> cases narrow? 7 a <;> cases narrow? 7 b <;> rfl

/-- A message is read exactly where its fields fit the widths of its variant. -/
theorem message?_isSome (v : Variant) (fields : List Nat) :
    (message? v fields).isSome = fieldsFit (fieldWidths v) fields := by
  cases v with
  | noteOff | noteOn | notePressure | controlChange => exact channelFields_isSome _ fields
  | programChange | channelPressure | pitchBend => exact channelField_isSome _ _ fields
  | timeCodeQuarterFrame | songSelect | sysexEnd1 | sysexSingleByte => exact oneField_isSome _ fields
  | songPositionPointer | sysexBegin | sysexEnd2 => exact twoFields_isSome _ fields
  | sysexCont => exact threeFields_isSome _ fields
  | _ => exact noField_isSome _ fields

/-! ### Operands of a type -/

theorem naturalOperand_iff {operand : Operand} : naturalOperand operand = true ↔ ∃ n, operand = .nat n := by
  cases operand <;> simp [naturalOperand]

theorem widthOperand_iff {operand : Operand} :
    widthOperand operand = true ↔ ∃ n, operand = .nat n ∧ (width? n).isSome = true := by
  cases operand <;> simp [widthOperand, width?_isSome]

theorem bitsOperand_iff {w : Nat} {operand : Operand} :
    bitsOperand w operand = true ↔ ∃ n, operand = .nat n ∧ (narrow? w n).isSome = true := by
  cases operand <;> simp [bitsOperand, narrow?_isSome]

theorem bytesOperand_iff {operand : Operand} :
    bytesOperand operand = true ↔ ∃ ns, operand = .bytes ns ∧ (bytes? ns).isSome = true := by
  cases operand <;> simp [bytesOperand, bytes?_isSome]

theorem packetFieldsOperand_iff {operand : Operand} :
    packetFieldsOperand operand = true ↔
      ∃ cable cin b0 b1 b2, operand = .packet cable cin b0 b1 b2 ∧ (packet? cable cin b0 b1 b2).isSome = true := by
  cases operand <;> simp [packetFieldsOperand, packet?_isSome]

theorem statusOperand_iff {operand : Operand} : statusOperand operand = true ↔ ∃ k, operand = .status k := by
  cases operand <;> simp [statusOperand]

theorem messageFieldsOperand_iff {operand : Operand} :
    messageFieldsOperand operand = true ↔
      ∃ v fields, operand = .message v fields ∧ (message? v fields).isSome = true := by
  cases operand <;> simp [messageFieldsOperand, message?_isSome]

theorem tokensOperand_iff {operand : Operand} :
    tokensOperand operand = true ↔ ∃ ts, operand = .program ts ∧ (program? ts).isSome = true := by
  cases operand <;> simp [tokensOperand, program?_isSome]

theorem fits_nil_iff {operands : List Operand} : fits [] operands = true ↔ operands = [] := by
  cases operands <;> simp [fits]

theorem fits_cons_iff {inType : Operand → Bool} {types : List (Operand → Bool)} {operands : List Operand} :
    fits (inType :: types) operands = true ↔
      ∃ operand rest, operands = operand :: rest ∧ inType operand = true ∧ fits types rest = true := by
  cases operands <;> simp [fits]

/-! ### The readers -/

/-- A reader accepts exactly the operands of these types. -/
def Accepts (read : List Operand → Option Instr) (types : List (Operand → Bool)) : Prop :=
  ∀ operands, (read operands).isSome = true ↔ fits types operands = true

theorem noOperand_accepts (i : Instr) : Accepts (noOperand i) [] := by
  intro operands
  rw [fits_nil_iff]
  cases operands <;> simp [noOperand]

theorem oneNat_accepts (f : Nat → Instr) : Accepts (oneNat f) [naturalOperand] := by
  intro operands
  unfold oneNat
  split
  · simp [fits, naturalOperand]
  · next hform =>
    refine ⟨nofun, fun hfits => ?_⟩
    simp only [fits_cons_iff, fits_nil_iff, naturalOperand_iff] at hfits
    obtain ⟨_, _, rfl, ⟨n, rfl⟩, rfl⟩ := hfits
    exact (hform n rfl).elim

theorem oneStatus_accepts (f : StatusKind → Instr) : Accepts (oneStatus f) [statusOperand] := by
  intro operands
  unfold oneStatus
  split
  · simp [fits, statusOperand]
  · next hform =>
    refine ⟨nofun, fun hfits => ?_⟩
    simp only [fits_cons_iff, fits_nil_iff, statusOperand_iff] at hfits
    obtain ⟨_, _, rfl, ⟨k, rfl⟩, rfl⟩ := hfits
    exact (hform k rfl).elim

theorem oneWord_accepts (w : Nat) (f : BitVec w → Instr) : Accepts (oneWord w f) [bitsOperand w] := by
  intro operands
  unfold oneWord
  split
  · simp [fits, bitsOperand, narrow?_isSome]
  · next hform =>
    refine ⟨nofun, fun hfits => ?_⟩
    simp only [fits_cons_iff, fits_nil_iff, bitsOperand_iff] at hfits
    obtain ⟨_, _, rfl, ⟨n, rfl, -⟩, rfl⟩ := hfits
    exact (hform n rfl).elim

theorem oneBytes_accepts (f : List Byte → Instr) : Accepts (oneBytes f) [bytesOperand] := by
  intro operands
  unfold oneBytes
  split
  · simp [fits, bytesOperand, bytes?_isSome]
  · next hform =>
    refine ⟨nofun, fun hfits => ?_⟩
    simp only [fits_cons_iff, fits_nil_iff, bytesOperand_iff] at hfits
    obtain ⟨_, _, rfl, ⟨ns, rfl, -⟩, rfl⟩ := hfits
    exact (hform ns rfl).elim

theorem onePacket_accepts (f : Packet → Instr) : Accepts (onePacket f) [packetFieldsOperand] := by
  intro operands
  unfold onePacket
  split
  · simp [fits, packet?_isSome]
  · next hform =>
    refine ⟨nofun, fun hfits => ?_⟩
    simp only [fits_cons_iff, fits_nil_iff, packetFieldsOperand_iff] at hfits
    obtain ⟨_, _, rfl, ⟨cable, cin, b0, b1, b2, rfl, -⟩, rfl⟩ := hfits
    exact (hform cable cin b0 b1 b2 rfl).elim

theorem oneMessage_accepts (f : Message → Instr) : Accepts (oneMessage f) [messageFieldsOperand] := by
  intro operands
  unfold oneMessage
  split
  · simp [fits, messageFieldsOperand, message?_isSome]
  · next hform =>
    refine ⟨nofun, fun hfits => ?_⟩
    simp only [fits_cons_iff, fits_nil_iff, messageFieldsOperand_iff] at hfits
    obtain ⟨_, _, rfl, ⟨v, fields, rfl, -⟩, rfl⟩ := hfits
    exact (hform v fields rfl).elim

theorem oneProgram_accepts (f : List Token → Instr) : Accepts (oneProgram f) [tokensOperand] := by
  intro operands
  unfold oneProgram
  split
  · simp [fits, tokensOperand, program?_isSome]
  · next hform =>
    refine ⟨nofun, fun hfits => ?_⟩
    simp only [fits_cons_iff, fits_nil_iff, tokensOperand_iff] at hfits
    obtain ⟨_, _, rfl, ⟨ts, rfl, -⟩, rfl⟩ := hfits
    exact (hform ts rfl).elim

theorem widthNat_accepts (f : Width → Nat → Instr) : Accepts (widthNat f) [widthOperand, naturalOperand] := by
  intro operands
  unfold widthNat
  split
  · simp [fits, widthOperand, naturalOperand, width?_isSome]
  · next hform =>
    refine ⟨nofun, fun hfits => ?_⟩
    simp only [fits_cons_iff, fits_nil_iff, widthOperand_iff, naturalOperand_iff] at hfits
    obtain ⟨_, _, rfl, ⟨n, rfl, -⟩, _, _, rfl, ⟨v, rfl⟩, rfl⟩ := hfits
    exact (hform n v rfl).elim

theorem twoBytes_accepts (f : Byte → Byte → Instr) : Accepts (twoBytes f) [bitsOperand 8, bitsOperand 8] := by
  intro operands
  unfold twoBytes
  split
  · next a b =>
    simp only [fits, bitsOperand, ← narrow?_isSome]
    cases narrow? 8 a <;> cases narrow? 8 b <;> simp
  · next hform =>
    refine ⟨nofun, fun hfits => ?_⟩
    simp only [fits_cons_iff, fits_nil_iff, bitsOperand_iff] at hfits
    obtain ⟨_, _, rfl, ⟨a, rfl, -⟩, _, _, rfl, ⟨b, rfl, -⟩, rfl⟩ := hfits
    exact (hform a b rfl).elim

theorem fourBytes_accepts (f : Byte → Byte → Byte → Byte → Instr) : Accepts (fourBytes f) [bitsOperand 8, bitsOperand 8, bitsOperand 8, bitsOperand 8] := by
  intro operands
  unfold fourBytes
  split
  · next a b c d =>
    simp only [fits, bitsOperand, ← narrow?_isSome]
    cases narrow? 8 a <;> cases narrow? 8 b <;> cases narrow? 8 c <;> cases narrow? 8 d <;> simp
  · next hform =>
    refine ⟨nofun, fun hfits => ?_⟩
    simp only [fits_cons_iff, fits_nil_iff, bitsOperand_iff] at hfits
    obtain ⟨_, _, rfl, ⟨a, rfl, -⟩, _, _, rfl, ⟨b, rfl, -⟩, _, _, rfl, ⟨c, rfl, -⟩, _, _, rfl, ⟨d, rfl, -⟩, rfl⟩ := hfits
    exact (hform a b c d rfl).elim

theorem cableCinBytes_accepts (f : U4 → U4 → List Byte → Instr) : Accepts (cableCinBytes f) [bitsOperand 4, bitsOperand 4, bytesOperand] := by
  intro operands
  unfold cableCinBytes
  split
  · next cable cin bs =>
    simp only [fits, bitsOperand, bytesOperand, ← narrow?_isSome, ← bytes?_isSome]
    cases narrow? 4 cable <;> cases narrow? 4 cin <;> cases bytes? bs <;> simp
  · next hform =>
    refine ⟨nofun, fun hfits => ?_⟩
    simp only [fits_cons_iff, fits_nil_iff, bitsOperand_iff, bytesOperand_iff] at hfits
    obtain ⟨_, _, rfl, ⟨cable, rfl, -⟩, _, _, rfl, ⟨cin, rfl, -⟩, _, _, rfl, ⟨bs, rfl, -⟩, rfl⟩ := hfits
    exact (hform cable cin bs rfl).elim

theorem cableMessage_accepts (f : U4 → Message → Instr) : Accepts (cableMessage f) [bitsOperand 4, messageFieldsOperand] := by
  intro operands
  unfold cableMessage
  split
  · next cable v fields =>
    simp only [fits, bitsOperand, messageFieldsOperand, ← narrow?_isSome, ← message?_isSome]
    cases narrow? 4 cable <;> cases message? v fields <;> simp
  · next hform =>
    refine ⟨nofun, fun hfits => ?_⟩
    simp only [fits_cons_iff, fits_nil_iff, bitsOperand_iff, messageFieldsOperand_iff] at hfits
    obtain ⟨_, _, rfl, ⟨cable, rfl, -⟩, _, _, rfl, ⟨v, fields, rfl, -⟩, rfl⟩ := hfits
    exact (hform cable v fields rfl).elim

theorem programCable_accepts (f : List Token → U4 → Instr) : Accepts (programCable f) [tokensOperand, bitsOperand 4] := by
  intro operands
  unfold programCable
  split
  · next ts cable =>
    simp only [fits, bitsOperand, tokensOperand, ← narrow?_isSome, ← program?_isSome]
    cases program? ts <;> cases narrow? 4 cable <;> simp
  · next hform =>
    refine ⟨nofun, fun hfits => ?_⟩
    simp only [fits_cons_iff, fits_nil_iff, bitsOperand_iff, tokensOperand_iff] at hfits
    obtain ⟨_, _, rfl, ⟨ts, rfl, -⟩, _, _, rfl, ⟨cable, rfl, -⟩, rfl⟩ := hfits
    exact (hform ts cable rfl).elim

theorem bytesProgram_accepts (f : List Byte → List Token → Instr) : Accepts (bytesProgram f) [bytesOperand, tokensOperand] := by
  intro operands
  unfold bytesProgram
  split
  · next bs ts =>
    simp only [fits, bytesOperand, tokensOperand, ← bytes?_isSome, ← program?_isSome]
    cases bytes? bs <;> cases program? ts <;> simp
  · next hform =>
    refine ⟨nofun, fun hfits => ?_⟩
    simp only [fits_cons_iff, fits_nil_iff, bytesOperand_iff, tokensOperand_iff] at hfits
    obtain ⟨_, _, rfl, ⟨bs, rfl, -⟩, _, _, rfl, ⟨ts, rfl, -⟩, rfl⟩ := hfits
    exact (hform bs ts rfl).elim

/-! ### The operands column of R117 -/

/-- Where an entry of the operands column holds types, the code has a reader, which accepts exactly those operands. -/
def ReadsRow (code : Nat) : Option (List (Operand → Bool)) → Prop
  | some types => ∃ read, operation? code = some read ∧ Accepts read types
  | none => True

theorem readsRow_ite {c : Prop} [Decidable c] {code : Nat} {types : List (Operand → Bool)}
    {rest : Option (List (Operand → Bool))}
    (htypes : c → ∃ read, operation? code = some read ∧ Accepts read types) (hrest : ReadsRow code rest) :
    ReadsRow code (if c then some types else rest) := by
  split
  · next h => exact htypes h
  · exact hrest

theorem readsRow_operandTypes (code : Nat) : ReadsRow code (operandTypes code) := by
  unfold operandTypes
  refine readsRow_ite (fun hcode => ?_) ?_
  · simp only [List.mem_cons, List.not_mem_nil, or_false] at hcode
    rcases hcode with rfl | rfl | rfl | rfl <;> exact ⟨_, rfl, widthNat_accepts _⟩
  refine readsRow_ite (fun hcode => hcode ▸ ⟨_, rfl, twoBytes_accepts _⟩) ?_
  refine readsRow_ite (fun hcode => hcode ▸ ⟨_, rfl, oneWord_accepts _ _⟩) ?_
  refine readsRow_ite (fun hcode => ?_) ?_
  · simp only [List.mem_cons, List.not_mem_nil, or_false] at hcode
    rcases hcode with rfl | rfl | rfl <;> exact ⟨_, rfl, oneNat_accepts _⟩
  refine readsRow_ite (fun hcode => ?_) ?_
  · simp only [List.mem_cons, List.not_mem_nil, or_false] at hcode
    rcases hcode with rfl | rfl <;> exact ⟨_, rfl, oneWord_accepts _ _⟩
  refine readsRow_ite (fun hcode => hcode ▸ ⟨_, rfl, cableCinBytes_accepts _⟩) ?_
  refine readsRow_ite (fun hcode => hcode ▸ ⟨_, rfl, fourBytes_accepts _⟩) ?_
  refine readsRow_ite (fun hcode => ?_) ?_
  · simp only [List.mem_cons, List.not_mem_nil, or_false] at hcode
    rcases hcode with rfl | rfl | rfl | rfl <;> exact ⟨_, rfl, onePacket_accepts _⟩
  refine readsRow_ite (fun hcode => ?_) ?_
  · simp only [List.mem_cons, List.not_mem_nil, or_false] at hcode
    rcases hcode with rfl | rfl | rfl | rfl | rfl | rfl | rfl <;> exact ⟨_, rfl, oneWord_accepts _ _⟩
  refine readsRow_ite (fun hcode => hcode ▸ ⟨_, rfl, oneStatus_accepts _⟩) ?_
  refine readsRow_ite (fun hcode => ?_) ?_
  · simp only [List.mem_cons, List.not_mem_nil, or_false] at hcode
    rcases hcode with rfl | rfl <;> exact ⟨_, rfl, oneBytes_accepts _⟩
  refine readsRow_ite (fun hcode => ?_) ?_
  · simp only [List.mem_cons, List.not_mem_nil, or_false] at hcode
    rcases hcode with rfl | rfl | rfl | rfl | rfl | rfl <;> exact ⟨_, rfl, noOperand_accepts _⟩
  refine readsRow_ite (fun hcode => hcode ▸ ⟨_, rfl, cableMessage_accepts _⟩) ?_
  refine readsRow_ite (fun hcode => hcode ▸ ⟨_, rfl, oneMessage_accepts _⟩) ?_
  refine readsRow_ite (fun hcode => hcode ▸ ⟨_, rfl, oneProgram_accepts _⟩) ?_
  refine readsRow_ite (fun hcode => hcode ▸ ⟨_, rfl, programCable_accepts _⟩) ?_
  refine readsRow_ite (fun hcode => hcode ▸ ⟨_, rfl, bytesProgram_accepts _⟩) ?_
  exact trivial

/-- Every code with operand types has a reader, which accepts exactly the operands of its row. -/
theorem operation?_of_operandTypes {code : Nat} {types : List (Operand → Bool)} (h : operandTypes code = some types) :
    ∃ read, operation? code = some read ∧ Accepts read types := by
  have hrow := readsRow_operandTypes code
  rwa [h] at hrow

/-- A code R117 does not assign has no reader. -/
theorem operation?_eq_none {code : Nat} (h : code ∉ assignedCodes) : operation? code = none := by
  unfold operation?
  split
  case h_39 => rfl
  all_goals exact absurd (by decide) h

/-- Operands in their types are decoded (R409). -/
theorem decode_command_of_fits {code : Byte} {operands : List Operand} {types : List (Operand → Bool)}
    (htypes : operandTypes code.toNat = some types) (hfits : fits types operands = true) (mode : ParserMode) :
    ∃ i, decode mode (.command code operands) = .ok i := by
  obtain ⟨read, hread, haccepts⟩ := operation?_of_operandTypes htypes
  obtain ⟨i, hi⟩ := Option.isSome_iff_exists.mp ((haccepts operands).mpr hfits)
  exact ⟨i, decode_command_of_read mode hread hi⟩

/-- Operands outside their types are refused by that name (R409). -/
theorem decode_command_of_not_fits {code : Byte} {operands : List Operand} {types : List (Operand → Bool)}
    (htypes : operandTypes code.toNat = some types) (hfits : fits types operands = false) (mode : ParserMode) :
    decode mode (.command code operands) = .error (.operandType code) := by
  obtain ⟨read, hread, haccepts⟩ := operation?_of_operandTypes htypes
  have hnone : read operands = none :=
    Option.not_isSome_iff_eq_none.mp fun hsome => ne_true_of_eq_false hfits ((haccepts operands).mp hsome)
  exact decodeCommand_of_rejected hread hnone

/-- An unassigned code is refused by that name (R119). -/
theorem decode_command_of_unassigned {code : Byte} (h : code.toNat ∉ assignedCodes) (mode : ParserMode)
    (operands : List Operand) : decode mode (.command code operands) = .error (.unassignedCode code) := by
  simp only [decode, decodeCommand, operation?_eq_none h]

end Sys2Proof
end

section
/-! One step of the machine (spec/20_memory.md, spec/70_reset_and_hazards.md) and the conversions that undo each other
(spec/40_bounded.md, spec/41_packet.md). -/

open Sys2Proof.Stated

namespace Sys2Proof.Machine

/-! ### One step -/

theorem step_of_decoded {s : State} {x : Input} {rest : List Event} {i : Instr} (hp : s.pending = .issue x :: rest)
    (hx : decode s.pu.mode x = .ok i) : step s = exec i (s.setPending rest) := by
  simp only [step, hp, hx]

theorem step_of_rejected {s : State} {x : Input} {rest : List Event} {e : DecodeError}
    (hp : s.pending = .issue x :: rest) (hx : decode s.pu.mode x = .error e) : step s = .refused (refusalOf e) := by
  simp only [step, hp, hx]

theorem step_of_unordered {s : State} {x y : Input} {rest : List Event} (hp : s.pending = .unordered x y :: rest) :
    step s = if unitOf x = unitOf y then .refused .unorderedOperations
      else .next (s.setPending (.issue x :: .issue y :: rest)) := by
  simp only [step, hp]

/-- Settles O57: the step of a pending input that decodes. -/
theorem stepRunsTheDecodedInstruction : Obligations.StepRunsTheDecodedInstruction := fun _ _ _ _ hp hx =>
  step_of_decoded hp hx

/-- Settles O60: the decoder's two errors by the operands column of R117, and the other events by their own arm of the
step. -/
theorem stepWaitsOrRefuses : Obligations.StepWaitsOrRefuses := by
  refine fun s rest => ⟨fun hp => ?_, fun code operands hp hcode => ?_, fun code operands types hp htypes hfits => ?_,
    fun mode code operands types htypes hfits => decode_command_of_fits htypes hfits mode, fun x y hp hunit => ?_,
    fun x y hp hunit => ?_, fun k v hp => ?_⟩
  · simp only [step, hp]
  · exact step_of_rejected hp (decode_command_of_unassigned hcode s.pu.mode operands)
  · exact step_of_rejected hp (decode_command_of_not_fits htypes hfits s.pu.mode)
  · rw [step_of_unordered hp, if_pos hunit]
  · rw [step_of_unordered hp, if_neg hunit]
  · simp only [step, hp]

/-- Settles O53: no arm of the dispatch looks at the output field, and every one that completes overwrites it. -/
theorem noOperationReadsTheLastResult : Obligations.NoOperationReadsTheLastResult := by
  intro i s earlier
  cases i <;> rfl

/-- Settles O56: by evaluating the decoder on the nine words. -/
theorem sampleWordsDecode : Obligations.SampleWordsDecode := by
  unfold Obligations.SampleWordsDecode
  decide

/-! ### Conversions -/

/-- Settles O5: the range check of R167 and the range of R211. -/
theorem inferredRangesHold : Obligations.InferredRangesHold := fun mode e b s =>
  ⟨decode_command_of_read mode rfl rfl, concludeNat_ite (e < 1 ∨ 16 < e) _ (e - 1) s,
    decode_command_of_read mode rfl (oneWord_toNat _ b), rfl⟩

/-- The three constructors keep a value of type UN (R161 to R163). -/
theorem exec_wide_of_le {n : Width} {v : Nat} (h : v ≤ 2 ^ n.bits - 1) (s : State) :
    exec (.cull n v) s = .next (s.setOutput (some (.ok (.nat v)))) ∧
    exec (.fill n v) s = .next (s.setOutput (some (.ok (.nat v)))) ∧
    exec (.fromDirect n v) s = .next (s.setOutput (some (.ok (.nat v)))) := by
  have hlt : v < 2 ^ n.bits := by
    have hpos := Nat.two_pow_pos n.bits
    omega
  have hcull : cullTo n v = v := Nat.mod_eq_of_lt hlt
  have hfill : fillTo n v = v := by rw [fillTo_eq_ite, if_neg (Nat.not_lt.mpr h)]
  refine ⟨congrArg (fun x => Host.Outcome.next (s.setOutput (some (.ok (.nat x))))) hcull,
    congrArg (fun x => Host.Outcome.next (s.setOutput (some (.ok (.nat x))))) hfill, ?_⟩
  rw [exec_fromDirect, if_neg (Nat.not_lt.mpr h)]

/-- The two halves of a 14-bit value join to it again (R165, R166). -/
theorem exec_u14FromPair_halves (v : U14) (s : State) :
    exec (.u14FromPair (fieldByte (u14Msb v)) (fieldByte (u14Lsb v))) s =
      .next (s.setOutput (some (.ok (.nat v.toNat)))) := by
  have hmsb := fieldByte_lt (u14Msb v)
  have hlsb := fieldByte_lt (u14Lsb v)
  rw [exec_u14FromPair, if_neg (by omega), fieldByte_toNat, fieldByte_toNat, u14_halves]

theorem exec_channelFromExternal_succ (c : U4) (s : State) :
    exec (.channelFromExternal (c.toNat + 1)) s = .next (s.setOutput (some (.ok (.nat c.toNat)))) := by
  have hrange : ¬ (c.toNat + 1 < 1 ∨ 16 < c.toNat + 1) := by omega
  refine (concludeNat_ite (c.toNat + 1 < 1 ∨ 16 < c.toNat + 1) _ (c.toNat + 1 - 1) s).trans ?_
  rw [if_neg hrange, Nat.add_sub_cancel]

/-- A packet's header byte splits into its two nibbles again (R191, R192). -/
theorem packetOfWire_headerByte (p : Packet) : packetOfWire (headerByte p) p.b0 p.b1 p.b2 = p := by
  rw [headerByte_eq_append, packetOfWire_append]

/-- Settles O6: each pair of conversions, joined at the value they share. -/
theorem conversionsUndoEachOther : Obligations.ConversionsUndoEachOther := by
  intro n v pair c p w0 w1 w2 w3 s
  rw [← fieldByte_u14Msb, ← fieldByte_u14Lsb, ← headerByte_eq_ofNat, ← highNibble_eq_ofNat, ← lowNibble_eq_ofNat]
  refine ⟨fun h => exec_wide_of_le h s, exec_u14FromPair_halves pair s, exec_channelFromExternal_succ c s, ?_, ?_⟩
  · exact congrArg (fun q => Host.Outcome.next (s.setOutput (some (.ok (.packet q))))) (packetOfWire_headerByte p)
  · exact congrArg (fun b => Host.Outcome.next (s.setOutput (some (.ok (.bytes [b, w1, w2, w3])))))
      (headerByte_packetOfWire w0 w1 w2 w3)

end Sys2Proof.Machine
end

section
/-! Runs of instructions (spec/20_memory.md R80): one instruction more, two runs in order, and what a run never reads or
writes; then the transparency of real-time bytes (spec/43_parser.md). -/

open Sys2Proof.Stated

namespace Sys2Proof.Machine

/-- A run starts with an instruction that leaves its result in the output. -/
theorem runInstrs_cons {i : Instr} {is : List Instr} {s t u : State} {o : OpResult} {results : List OpResult}
    (h : exec i s = .next (t.setOutput (some o)))
    (hrest : runInstrs is (t.setOutput (some o)) = .next (results, u)) :
    runInstrs (i :: is) s = .next (o :: results, u) := by
  simp only [runInstrs, h, hrest]
  rfl

/-- A run that completes has run its first instruction and then the rest. -/
theorem runInstrs_cons_next {i : Instr} {is : List Instr} {s u : State} {results : List OpResult}
    (h : runInstrs (i :: is) s = .next (results, u)) :
    ∃ t rest, exec i s = .next t ∧ runInstrs is t = .next (rest, u) ∧ results = t.output.toList ++ rest := by
  unfold runInstrs at h
  split at h
  · cases h
  · cases h
  · next t hexec =>
    split at h
    · cases h
    · cases h
    · next rest v hrest =>
      cases h
      exact ⟨t, rest, hexec, hrest, rfl⟩

/-- Two runs in order are one run. -/
theorem runInstrs_append {is js : List Instr} {s t u : State} {results more : List OpResult}
    (h : runInstrs is s = .next (results, t)) (hmore : runInstrs js t = .next (more, u)) :
    runInstrs (is ++ js) s = .next (results ++ more, u) := by
  induction is generalizing s results with
  | nil =>
    cases h
    exact hmore
  | cons i is ih =>
    obtain ⟨v, rest, hexec, hrest, rfl⟩ := runInstrs_cons_next h
    simp only [List.cons_append, runInstrs, hexec, ih hrest, List.append_assoc]

/-- No run writes the parameters (R40). -/
theorem runInstrs_params {is : List Instr} {s t : State} {results : List OpResult}
    (h : runInstrs is s = .next (results, t)) : t.params = s.params := by
  induction is generalizing s results with
  | nil =>
    cases h
    rfl
  | cons i is ih =>
    obtain ⟨v, rest, hexec, hrest, rfl⟩ := runInstrs_cons_next h
    exact (ih hrest).trans (onlyItsUnitWritesAnElement i s v hexec).1

/-- No run reads the result of what came before it (R404). -/
theorem runInstrs_setOutput {is : List Instr} {s t : State} {results : List OpResult}
    (h : runInstrs is s = .next (results, t)) (earlier : Option OpResult) :
    ∃ o, runInstrs is (s.setOutput earlier) = .next (results, t.setOutput o) := by
  cases is with
  | nil =>
    cases h
    exact ⟨earlier, rfl⟩
  | cons i is =>
    refine ⟨t.output, ?_⟩
    rw [runInstrs, noOperationReadsTheLastResult i s earlier]
    exact h

theorem parseAll_append (x y : List Byte) : parseAll (x ++ y) = parseAll x ++ parseAll y := List.map_append

/-- Settles O22: the real-time byte writes its result alone, which the rest of the stream does not read. -/
theorem realtimeIsTransparent : Obligations.RealtimeIsTransparent := by
  intro x y r s t u xs ys hr hx hy
  have hbyte : runInstrs (parseAll [r]) t = .next ((emitted t 0xF r 0 0).toList, t.setOutput (emitted t 0xF r 0 0)) :=
    runInstrs_cons (exec_parseByte_of_realtime hr t) rfl
  have hparams : emitted t 0xF r 0 0 = emitted s 0xF r 0 0 := by rw [emitted, runInstrs_params hx, emitted]
  obtain ⟨o, hrest⟩ := runInstrs_setOutput hy (emitted t 0xF r 0 0)
  refine ⟨o, ?_⟩
  rw [parseAll_append, parseAll_append, ← hparams]
  exact runInstrs_append (runInstrs_append hx hbyte) hrest

end Sys2Proof.Machine
end

section
/-! What streams of bytes parse into (spec/43_parser.md, laws of the parser): the bytes of a message parse into its packet
(R284 to R308 read backwards), a framed run into its messages' packets, and what the compressor sends into the packets it
was given (spec/42_status_compressor.md R219). -/

open Sys2Proof.Stated

namespace Sys2Proof.Machine

/-! ### Streams -/

/-- From the parser state `pu` the bytes parse without an error into these packets, and the parser ends in `pu'`, whatever
the rest of the machine holds. -/
def Parses (params : Params) (pu : ParserState) (bytes : List Byte) (packets : List Packet) (pu' : ParserState) : Prop :=
  ∀ s : State, s.params = params → s.pu = pu →
    ∃ results t, runInstrs (parseAll bytes) s = .next (results, t) ∧ results.all isOk = true ∧
      packetsOf results = packets ∧ t.pu = pu' ∧ t.params = params

theorem packetsOf_append (xs ys : List OpResult) : packetsOf (xs ++ ys) = packetsOf xs ++ packetsOf ys := by
  induction xs using packetsOf.induct with
  | case1 => rfl
  | case2 p rs ih => simp only [List.cons_append, packetsOf, ih]
  | case3 v rs hv ih => rw [List.cons_append, packetsOf, packetsOf, ih] <;> exact hv
  | case4 e rs ih => simp only [List.cons_append, packetsOf, ih]

theorem parses_nil (params : Params) (pu : ParserState) : Parses params pu [] [] pu :=
  fun s hparams hpu => ⟨[], s, rfl, rfl, rfl, hpu, hparams⟩

theorem parses_append {params : Params} {pu pu' pu'' : ParserState} {x y : List Byte} {ps qs : List Packet}
    (hx : Parses params pu x ps pu') (hy : Parses params pu' y qs pu'') :
    Parses params pu (x ++ y) (ps ++ qs) pu'' := by
  intro s hparams hpu
  obtain ⟨xs, t, hrun, hok, rfl, hpu', hparams'⟩ := hx s hparams hpu
  obtain ⟨ys, u, hrun', hok', rfl, hpu'', hparams''⟩ := hy t hparams' hpu'
  refine ⟨xs ++ ys, u, ?_, by rw [List.all_append, hok, hok', Bool.and_self], packetsOf_append xs ys, hpu'', hparams''⟩
  rw [parseAll_append]
  exact runInstrs_append hrun hrun'

/-- One byte parses by its row of the transition table. -/
theorem parses_of_step {params : Params} {pu pu' : ParserState} {b : Byte} {o : OpResult}
    (h : ParserStep params pu b pu' o) (hok : isOk o = true) : Parses params pu [b] (packetsOf [o]) pu' := by
  rintro s rfl rfl
  exact ⟨[o], _, runInstrs_cons (exec_parseByte_of_step h) rfl, by rw [List.all_cons, hok]; rfl, rfl, rfl, rfl⟩

/-- A byte that yields no packet, and then the rest. -/
theorem parses_cons {params : Params} {pu pu' pu'' : ParserState} {b : Byte} {bytes : List Byte} {ps : List Packet}
    (h : ParserStep params pu b pu' noPacket) (hrest : Parses params pu' bytes ps pu'') :
    Parses params pu (b :: bytes) ps pu'' :=
  parses_append (parses_of_step h rfl) hrest

/-- A byte that yields a packet. -/
theorem parses_packet {params : Params} {pu pu' : ParserState} {b : Byte} {cin : U4} {bytes : List Byte}
    (h : ParserStep params pu b pu' (packetResult params cin bytes)) :
    Parses params pu [b] [makePacket params.parserCable cin bytes] pu' :=
  parses_of_step h rfl

/-! ### The bytes of one message -/

/-- The data bytes after a status complete its message (R247). -/
theorem parses_data {params : Params} {status : Byte} (hst : takesData status) {collected data : List Byte}
    (hdata : ∀ b ∈ data, b.toNat < 0x80) (hne : data ≠ [])
    (hlen : collected.length + data.length = lengthOf status - 1) :
    Parses params (.awaitingData status collected) data
      [makePacket params.parserCable (cinOf status) (status :: (collected ++ data))] (afterMessage params status) := by
  induction data generalizing collected with
  | nil => exact absurd rfl hne
  | cons b rest ih =>
    have hb : b.toNat < 0x80 := hdata b (by simp)
    rw [List.length_cons] at hlen
    cases rest with
    | nil => exact parses_packet (.last hst hb hlen)
    | cons c rest =>
      rw [List.length_cons] at hlen
      have hmore := ih (collected := collected ++ [b]) (fun x hx => hdata x (List.mem_cons_of_mem b hx)) (by simp)
        (by simp only [List.length_append, List.length_cons, List.length_nil]; omega)
      rw [List.append_assoc] at hmore
      exact parses_cons (.notLast hst hb (by omega)) hmore

/-- The framing code and length of a channel-voice status, by its kind nibble (R102, R249). -/
theorem voice_columns {kind : U4} (hkind : kind ≠ 0xF) (ch : U4) :
    cinOf (kind ++ ch) = kind ∧ lengthOf (kind ++ ch) = if kind = 0xC ∨ kind = 0xD then 2 else 3 := by
  revert kind ch
  decide

theorem voiceRow_two (kind ch : U4) (a b : U7) (hkind : kind ≠ 0xF) (htwo : ¬ (kind = 0xC ∨ kind = 0xD)) :
    kind = cinOf (kind ++ ch) ∧ [fieldByte a, fieldByte b].length = lengthOf (kind ++ ch) - 1 ∧
      ∃ ds : List U7, [fieldByte a, fieldByte b] = ds.map fieldByte := by
  obtain ⟨hcin, hlen⟩ := voice_columns hkind ch
  rw [hcin, hlen, if_neg htwo]
  exact ⟨rfl, rfl, [a, b], rfl⟩

theorem voiceRow_one (kind ch : U4) (a : U7) (hone : kind = 0xC ∨ kind = 0xD) :
    kind = cinOf (kind ++ ch) ∧ [fieldByte a].length = lengthOf (kind ++ ch) - 1 ∧
      ∃ ds : List U7, [fieldByte a] = ds.map fieldByte := by
  have hkind : kind ≠ 0xF := by rcases hone with rfl | rfl <;> decide
  obtain ⟨hcin, hlen⟩ := voice_columns hkind ch
  rw [hcin, hlen, if_pos hone]
  exact ⟨rfl, rfl, [a], rfl⟩

/-- The row of R110 of a message whose status takes data. -/
theorem encodeRow_of_takesData {m : Message} {status : Byte} {data : List Byte}
    (hrow : (encodeRow m).2 = status :: data) (hst : takesData status) :
    (encodeRow m).1 = cinOf status ∧ data.length = lengthOf status - 1 ∧ ∃ ds : List U7, data = ds.map fieldByte := by
  have hfield : ∀ d : U7, ¬ takesData (fieldByte d) := fun d h => by
    have hlt := fieldByte_lt d
    rcases h with ⟨hl, -⟩ | h | h | h
    · omega
    all_goals
      rw [h] at hlt
      exact absurd hlt (by decide)
  cases m with
  | noteOff ch a b | noteOn ch a b | notePressure ch a b | controlChange ch a b =>
    cases hrow
    dsimp only [encodeRow]
    exact voiceRow_two _ ch a b (by decide) (by decide)
  | programChange ch a | channelPressure ch a =>
    cases hrow
    dsimp only [encodeRow]
    exact voiceRow_one _ ch a (by decide)
  | pitchBend ch value =>
    cases hrow
    exact voiceRow_two 0xE ch (u14Lsb value) (u14Msb value) (by decide) (by decide)
  | timeCodeQuarterFrame a | songSelect a =>
    cases hrow
    exact ⟨rfl, rfl, [a], rfl⟩
  | songPositionPointer a b =>
    cases hrow
    exact ⟨rfl, rfl, [a, b], rfl⟩
  | sysexCont d0 | sysexEnd1 d0 | sysexEnd2 d0 =>
    cases hrow
    exact absurd hst (hfield d0)
  | _ =>
    cases hrow
    rcases hst with ⟨hl, hu⟩ | h | h | h
    · exact absurd hu (by decide)
    all_goals exact absurd h (by decide)

/-- The data bytes of a message complete it after its status. -/
theorem parses_data_of_encodeRow {params : Params} {m : Message} {status : Byte} {data : List Byte}
    (hrow : (encodeRow m).2 = status :: data) (hst : takesData status) :
    Parses params (.awaitingData status []) data [packetOfMessage params.parserCable m] (afterMessage params status) := by
  obtain ⟨hcin, hlen, ds, rfl⟩ := encodeRow_of_takesData hrow hst
  have htwo := two_le_lengthOf status
  have hne : ds.map fieldByte ≠ [] := List.ne_nil_of_length_pos (by omega)
  have h := parses_data (params := params) hst (collected := []) fieldBytes_lt hne (by rw [List.length_nil]; omega)
  rwa [List.nil_append, ← hcin, ← hrow] at h

/-- The bytes of a message whose status takes data parse into its packet from any state (R245, R247). -/
theorem parses_of_takesData {params : Params} {m : Message} {status : Byte} {data : List Byte}
    (hrow : (encodeRow m).2 = status :: data) (hst : takesData status) (pu : ParserState) :
    Parses params pu (encodeRow m).2 [packetOfMessage params.parserCable m] (afterMessage params status) :=
  hrow ▸ parses_cons (.status hst) (parses_data_of_encodeRow hrow hst)

/-- The byte of a real-time message parses into its packet and leaves the state as it was (R241). -/
theorem parses_realtimeMessage {m : Message} (h : isRealtimeMessage m = true) (params : Params) (pu : ParserState) :
    Parses params pu (encodeRow m).2 [packetOfMessage params.parserCable m] pu := by
  cases m with
  | timingClock | measureEnd | start | continue_ | stop | activeSensing | systemReset =>
    exact parses_packet (.realtime (by decide))
  | _ => cases h

theorem parses_tuneRequest (params : Params) (pu : ParserState) :
    Parses params pu (encodeRow .tuneRequest).2 [packetOfMessage params.parserCable .tuneRequest] .idle :=
  parses_packet (.single (.inr (.inr rfl)))

/-! ### The bytes of a sysex fragment (R242, R243, R248) -/

theorem parses_sysexBegin (params : Params) (pu : ParserState) (d0 d1 : U7) :
    Parses params pu (encodeRow (.sysexBegin d0 d1)).2 [packetOfMessage params.parserCable (.sysexBegin d0 d1)]
      (.inSysex []) :=
  parses_cons .sysexStart (parses_cons (.notThird (fieldByte_lt d0) (by decide))
    (parses_packet (.third (fieldByte_lt d1) rfl)))

theorem parses_sysexCont (params : Params) (d0 d1 d2 : U7) :
    Parses params (.inSysex []) (encodeRow (.sysexCont d0 d1 d2)).2
      [packetOfMessage params.parserCable (.sysexCont d0 d1 d2)] (.inSysex []) :=
  parses_cons (.notThird (fieldByte_lt d0) (by decide)) (parses_cons (.notThird (fieldByte_lt d1) (by simp))
    (parses_packet (.third (fieldByte_lt d2) rfl)))

theorem parses_sysexEnd (params : Params) :
    Parses params (.inSysex []) (encodeRow .sysexEnd).2 [packetOfMessage params.parserCable .sysexEnd] .idle :=
  parses_packet (.sysexEnd (by decide))

theorem parses_sysexEnd1 (params : Params) (d0 : U7) :
    Parses params (.inSysex []) (encodeRow (.sysexEnd1 d0)).2 [packetOfMessage params.parserCable (.sysexEnd1 d0)]
      .idle :=
  parses_cons (.notThird (fieldByte_lt d0) (by decide)) (parses_packet (.sysexEnd (by simp)))

theorem parses_sysexEnd2 (params : Params) (d0 d1 : U7) :
    Parses params (.inSysex []) (encodeRow (.sysexEnd2 d0 d1)).2
      [packetOfMessage params.parserCable (.sysexEnd2 d0 d1)] .idle :=
  parses_cons (.notThird (fieldByte_lt d0) (by decide)) (parses_cons (.notThird (fieldByte_lt d1) (by simp))
    (parses_packet (.sysexEnd (by simp))))

theorem parses_sysexEmpty (params : Params) (pu : ParserState) :
    Parses params pu (encodeRow .sysexEmpty).2 [packetOfMessage params.parserCable .sysexEmpty] .idle :=
  parses_cons .sysexStart (parses_packet (.sysexEnd (by decide)))

theorem parses_sysexSingleByte (params : Params) (pu : ParserState) (d0 : U7) :
    Parses params pu (encodeRow (.sysexSingleByte d0)).2 [packetOfMessage params.parserCable (.sysexSingleByte d0)]
      .idle :=
  parses_cons .sysexStart (parses_cons (.notThird (fieldByte_lt d0) (by decide)) (parses_packet (.sysexEnd (by simp))))

/-! ### A framed run (R253) -/

/-- Inside a run the rest of the body and 0xF7 parse into the fragments it is framed into (R372). -/
theorem parses_frameRest (params : Params) (ds : List U7) :
    Parses params (.inSysex []) (ds.map fieldByte ++ [0xF7])
      ((frameRest ds).map (packetOfMessage params.parserCable)) .idle := by
  induction ds using frameRest.induct with
  | case1 => exact parses_sysexEnd params
  | case2 a => exact parses_sysexEnd1 params a
  | case3 a b => exact parses_sysexEnd2 params a b
  | case4 a b c rest ih => exact parses_append (parses_sysexCont params a b c) ih

/-- From any state a whole run parses into the fragments its body is framed into (R372). -/
theorem parses_frameBody (params : Params) (pu : ParserState) (ds : List U7) :
    Parses params pu ([0xF0] ++ ds.map fieldByte ++ [0xF7])
      ((frameBody ds).map (packetOfMessage params.parserCable)) .idle := by
  match ds with
  | [] => exact parses_sysexEmpty params pu
  | [a] => exact parses_sysexSingleByte params pu a
  | a :: b :: rest => exact parses_append (parses_sysexBegin params pu a b) (parses_frameRest params rest)

/-- Bytes below 0x80 are the bytes of their fields. -/
theorem map_fieldByte_map_bodyField {d : List Byte} (h : ∀ b ∈ d, b.toNat < 0x80) :
    (d.map bodyField).map fieldByte = d := by
  rw [List.map_map]
  refine (List.map_congr_left fun b hb => ?_).trans (List.map_id d)
  obtain ⟨v, rfl⟩ := eq_fieldByte_of_lt (h b hb)
  exact congrArg fieldByte (bodyField_fieldByte v)

theorem parses_framed {d : List Byte} (h : ∀ b ∈ d, b.toNat < 0x80) (params : Params) (pu : ParserState) :
    Parses params pu ([0xF0] ++ d ++ [0xF7]) ((framed d).map (packetOfMessage params.parserCable)) .idle := by
  have hframe := parses_frameBody params pu (d.map bodyField)
  rwa [map_fieldByte_map_bodyField h, ← frame, frame_eq_framed] at hframe

/-- Settles O23: fragment by fragment. -/
theorem parserFramesSysexRuns : Obligations.ParserFramesSysexRuns := by
  intro d s h
  obtain ⟨results, t, hrun, hok, hpackets, hpu, -⟩ := parses_framed h s.params s.pu s rfl rfl
  exact ⟨results, t, hrun, hok, hpackets, hpu⟩

end Sys2Proof.Machine
end

section
/-! The decompression law (spec/42_status_compressor.md R219): what RC_SERIALIZE sends of a message, and that the parser
and the compressor stay in step: inside a run the parser is in `InSysex`, and a remembered status is its running status. -/

open Sys2Proof.Stated

namespace Sys2Proof.Machine

/-! ### What is sent -/

/-- Every message has a first byte, and at most two after it (R110). -/
theorem encodeRow_cons (m : Message) : ∃ first rest, (encodeRow m).2 = first :: rest ∧ rest.length ≤ 2 := by
  cases m <;> exact ⟨_, _, rfl, Nat.le_of_ble_eq_true rfl⟩

theorem payloadOf_packetOfMessage (cable : U4) (m : Message) :
    payloadOf (packetOfMessage cable m) = .ok (encodeRow m).2 := by
  cases m <;> rfl

/-- RC_SERIALIZE packs a message's bytes: a repeated channel-voice status is left out, a new one remembered (R216). -/
theorem exec_rcSerialize_packetOfMessage {m : Message} {first : Byte} {rest : List Byte}
    (hrow : (encodeRow m).2 = first :: rest) (cable : U4) (s : State) :
    exec (.rcSerialize (packetOfMessage cable m)) s =
      .next
        (if 0x80 ≤ first.toNat ∧ first.toNat ≤ 0xEF then
          if s.rcLast = some first then s.setOutput (some (.ok (.bytes rest)))
          else (s.setRcLast (some first)).setOutput (some (.ok (.bytes (first :: rest))))
        else (s.setRcLast none).setOutput (some (.ok (.bytes (first :: rest))))) := by
  obtain ⟨first', rest', hrow', hlen⟩ := encodeRow_cons m
  obtain ⟨rfl, rfl⟩ := List.cons.inj (hrow.symm.trans hrow')
  have hpack : exec (.rcSerialize (packetOfMessage cable m)) s = exec (.rcPack (first :: rest)) s := by
    change execRcSerialize _ s = _
    rw [execRcSerialize, payloadOf_packetOfMessage, hrow]
    rfl
  rw [hpack, exec_rcPack_cons hlen]

/-! ### One message -/

/-- Inside a run the parser is in `InSysex` with an empty scratch area. -/
def InRun (inRun : Bool) (pu : ParserState) : Prop := inRun = true → pu = .inSysex []

/-- The bytes of the next message of complete runs parse into its packet, and the rest are complete runs again. -/
theorem parses_next_message {inRun : Bool} {m : Message} {ms : List Message} (h : completeRuns inRun (m :: ms) = true)
    {pu : ParserState} (hpu : InRun inRun pu) (params : Params) :
    ∃ inRun' pu', completeRuns inRun' ms = true ∧ InRun inRun' pu' ∧
      Parses params pu (encodeRow m).2 [packetOfMessage params.parserCable m] pu' := by
  have hvoice : ∀ kind ch : U4, 0x8 ≤ kind.toNat → kind.toNat ≤ 0xE → takesData (kind ++ ch) := fun kind ch hl hu =>
    append_eq_voiceByte kind ch ▸ takesData_voiceByte hl hu ch
  cases inRun with
  | false =>
    cases m with
    | noteOff ch | noteOn ch | notePressure ch | controlChange ch | programChange ch | channelPressure ch
    | pitchBend ch =>
      exact ⟨false, _, h, nofun, parses_of_takesData rfl (hvoice _ ch (by decide) (by decide)) pu⟩
    | timeCodeQuarterFrame => exact ⟨false, _, h, nofun, parses_of_takesData rfl (.inr (.inl rfl)) pu⟩
    | songPositionPointer => exact ⟨false, _, h, nofun, parses_of_takesData rfl (.inr (.inr (.inl rfl))) pu⟩
    | songSelect => exact ⟨false, _, h, nofun, parses_of_takesData rfl (.inr (.inr (.inr rfl))) pu⟩
    | tuneRequest => exact ⟨false, _, h, nofun, parses_tuneRequest params pu⟩
    | timingClock | measureEnd | start | continue_ | stop | activeSensing | systemReset =>
      exact ⟨false, pu, h, nofun, parses_realtimeMessage rfl params pu⟩
    | sysexBegin d0 d1 => exact ⟨true, _, h, fun _ => rfl, parses_sysexBegin params pu d0 d1⟩
    | sysexEmpty => exact ⟨false, _, h, nofun, parses_sysexEmpty params pu⟩
    | sysexSingleByte d0 => exact ⟨false, _, h, nofun, parses_sysexSingleByte params pu d0⟩
    | sysexCont | sysexEnd | sysexEnd1 | sysexEnd2 => cases h
  | true =>
    obtain rfl := hpu rfl
    cases m with
    | timingClock | measureEnd | start | continue_ | stop | activeSensing | systemReset =>
      exact ⟨true, _, h, fun _ => rfl, parses_realtimeMessage rfl params _⟩
    | sysexCont d0 d1 d2 => exact ⟨true, _, h, fun _ => rfl, parses_sysexCont params d0 d1 d2⟩
    | sysexEnd => exact ⟨false, _, h, nofun, parses_sysexEnd params⟩
    | sysexEnd1 d0 => exact ⟨false, _, h, nofun, parses_sysexEnd1 params d0⟩
    | sysexEnd2 d0 d1 => exact ⟨false, _, h, nofun, parses_sysexEnd2 params d0 d1⟩
    | _ => cases h

/-- A channel-voice message stands outside the runs. -/
theorem completeRuns_of_isVoice {inRun : Bool} {m : Message} {ms : List Message}
    (h : completeRuns inRun (m :: ms) = true) {first : Byte} {rest : List Byte}
    (hrow : (encodeRow m).2 = first :: rest) (hv : isVoice first) : completeRuns false ms = true := by
  cases m with
  | noteOff | noteOn | notePressure | controlChange | programChange | channelPressure | pitchBend =>
    cases inRun with
    | false => exact h
    | true => cases h
  | sysexCont d0 | sysexEnd1 d0 | sysexEnd2 d0 =>
    cases hrow
    exact absurd hv.1 (Nat.not_le.mpr (fieldByte_lt d0))
  | _ =>
    cases hrow
    exact absurd hv.2 (by decide)

/-! ### Compressor and parser in step -/

/-- A status the compressor remembers is the parser's running status (R33, R34). -/
def InStep (last : Option Byte) (pu : ParserState) : Prop := ∀ status, last = some status → pu = .awaitingData status []

theorem inStep_none (pu : ParserState) : InStep none pu := nofun

theorem inStep_some (status : Byte) : InStep (some status) (.awaitingData status []) := fun _ h =>
  Option.some.inj h ▸ rfl

/-- A completed channel-voice message leaves its running status, for either value of the parameter (R247). -/
theorem afterMessage_of_isVoice (params : Params) {status : Byte} (h : isVoice status) :
    afterMessage params status = .awaitingData status [] := by
  rw [afterMessage_eq_ite, if_pos (.inl h)]

/-- What is sent of one message parses into its packet, and the two units are in step after it. -/
theorem send_message {inRun : Bool} {m : Message} {ms : List Message} (h : completeRuns inRun (m :: ms) = true)
    {s : State} {pu : ParserState} (hrun : InRun inRun pu) (hstep : InStep s.rcLast pu) (params : Params)
    (cable : U4) :
    ∃ (bytes : List Byte) (s' : State) (inRun' : Bool) (pu' : ParserState),
      exec (.rcSerialize (packetOfMessage cable m)) s = .next (s'.setOutput (some (.ok (.bytes bytes)))) ∧
      Parses params pu bytes [packetOfMessage params.parserCable m] pu' ∧
      completeRuns inRun' ms = true ∧ InRun inRun' pu' ∧ InStep s'.rcLast pu' := by
  obtain ⟨first, rest, hrow, -⟩ := encodeRow_cons m
  have hexec := exec_rcSerialize_packetOfMessage hrow cable s
  by_cases hv : 0x80 ≤ first.toNat ∧ first.toNat ≤ 0xEF
  · have hms := completeRuns_of_isVoice h hrow hv
    have hdata := parses_data_of_encodeRow (params := params) hrow (.inl hv)
    rw [afterMessage_of_isVoice params hv] at hdata
    rw [if_pos hv] at hexec
    by_cases hlast : s.rcLast = some first
    · obtain rfl := hstep first hlast
      rw [if_pos hlast] at hexec
      exact ⟨rest, s, false, _, hexec, hdata, hms, nofun, hstep⟩
    · rw [if_neg hlast] at hexec
      exact ⟨first :: rest, _, false, _, hexec, parses_cons (.status (.inl hv)) hdata, hms, nofun, inStep_some first⟩
  · obtain ⟨inRun', pu', hms, hrun', hparses⟩ := parses_next_message h hrun params
    rw [if_neg hv] at hexec
    exact ⟨first :: rest, _, inRun', pu', hexec, hrow ▸ hparses, hms, hrun', inStep_none pu'⟩

/-- What is sent of messages with complete runs parses into their packets, by induction on the messages. -/
theorem send_messages (ms : List Message) {inRun : Bool} (h : completeRuns inRun ms = true) {s : State}
    {pu : ParserState} (hrun : InRun inRun pu) (hstep : InStep s.rcLast pu) (params : Params) :
    ∃ sent t pu', runInstrs (serializeAll ms) s = .next (sent, t) ∧ sent.all isOk = true ∧
      Parses params pu (bytesOf sent) (ms.map (packetOfMessage params.parserCable)) pu' := by
  induction ms generalizing inRun s pu with
  | nil => exact ⟨[], s, pu, rfl, rfl, parses_nil params pu⟩
  | cons m ms ih =>
    obtain ⟨bytes, s', inRun', pu', hexec, hparses, hms, hrun', hstep'⟩ := send_message h hrun hstep params 0
    obtain ⟨sent, t, pu'', hsent, hok, hrest⟩ := ih hms hrun' (s := s'.setOutput (some (.ok (.bytes bytes)))) hstep'
    exact ⟨.ok (.bytes bytes) :: sent, t, pu'', runInstrs_cons hexec hsent, hok, parses_append hparses hrest⟩

/-- Settles O46: from an idle parser and a compressor that remembers nothing the two are in step. -/
theorem parserUndoesTheCompressor : Obligations.ParserUndoesTheCompressor := by
  intro ms s hruns hlast hpu hcable
  obtain ⟨sent, t, pu', hsent, hok, hparses⟩ :=
    send_messages ms hruns (s := s) (pu := .idle) nofun (hlast ▸ inStep_none _) s.params
  obtain ⟨parsed, u, hparsed, hok', hpackets, -, -⟩ := hparses s rfl hpu
  exact ⟨sent, t, parsed, u, hsent, hok, hparsed, hok', hcable ▸ hpackets⟩

end Sys2Proof.Machine
end

section
/-! The capture of a framed body (spec/45_sysex_capture.md R352): a fragment that continues a run on an open buffer that
holds it, on one that does not, and on an empty one; then the fragments of a body in order. -/

open Sys2Proof.Stated

namespace Sys2Proof.Machine

/-! ### A fragment that continues a run

The three lemmas are about the shape SysexCont, SysexEnd1 and SysexEnd2 share: emptiness first, then APPEND (R405). -/

theorem openRun_of_fits {s : State} (hopen : s.scBuf ≠ []) {bytes : List Byte}
    (hfits : s.scBuf.length + bytes.length ≤ s.params.captureCapacity) (e : ErrorKind) (result : Nat → CaptureResult) :
    (if s.scBuf.length = 0 then raise e s else captureAppend bytes result s) =
      .next ((s.setScBuf (s.scBuf ++ bytes)).setOutput
        (some (.ok (.capture (result (s.scBuf.length + bytes.length)))))) := by
  rw [captureAppend_openRun, if_neg hopen, if_neg (Nat.not_lt.mpr hfits)]

theorem openRun_of_overflows {s : State} (hopen : s.scBuf ≠ []) {bytes : List Byte}
    (hover : s.params.captureCapacity < s.scBuf.length + bytes.length) (e : ErrorKind) (result : Nat → CaptureResult) :
    (if s.scBuf.length = 0 then raise e s else captureAppend bytes result s) =
      .next ((s.setScBuf []).setOutput (some (.err .bufferOverflow))) := by
  rw [captureAppend_openRun, if_neg hopen, if_pos hover]

theorem openRun_of_empty {s : State} (hempty : s.scBuf = []) (bytes : List Byte) (e : ErrorKind)
    (result : Nat → CaptureResult) :
    (if s.scBuf.length = 0 then raise e s else captureAppend bytes result s) = .next (s.setOutput (some (.err e))) := by
  rw [captureAppend_openRun, if_pos hempty]

/-- SysexCont on an open buffer with room for three bytes (R343). -/
theorem exec_sysexCont_of_fits {s : State} (hopen : s.scBuf ≠ [])
    (hfits : s.scBuf.length + 3 ≤ s.params.captureCapacity) (a b c : U7) :
    exec (.captureStep (.sysexCont a b c)) s =
      .next ((s.setScBuf (s.scBuf ++ [a, b, c].map fieldByte)).setOutput (some (.ok (.capture .pending)))) :=
  openRun_of_fits hopen (bytes := [a, b, c].map fieldByte) hfits _ _

/-- SysexCont on an open buffer without that room (R343). -/
theorem exec_sysexCont_of_overflows {s : State} (hopen : s.scBuf ≠ [])
    (hover : s.params.captureCapacity < s.scBuf.length + 3) (a b c : U7) :
    exec (.captureStep (.sysexCont a b c)) s = .next ((s.setScBuf []).setOutput (some (.err .bufferOverflow))) :=
  openRun_of_overflows hopen (bytes := [a, b, c].map fieldByte) hover _ _

/-! ### The fragments after the first -/

theorem frameRest_length_pos (ds : List U7) : 0 < (frameRest ds).length := by
  induction ds using frameRest.induct <;> simp [frameRest]

/-- The results of a run that is captured whole: `Pending` but for the last (R352). -/
def capturedResults (fragments length : Nat) : List OpResult :=
  List.replicate (fragments - 1) (.ok (.capture .pending)) ++ [.ok (.capture (.captured length))]

theorem capturedResults_succ {fragments : Nat} (h : 0 < fragments) (length : Nat) :
    capturedResults (fragments + 1) length = .ok (.capture .pending) :: capturedResults fragments length := by
  obtain ⟨n, rfl⟩ := Nat.exists_eq_add_of_le' h
  rfl

/-- On an open buffer that holds the rest of the body, the fragments complete the capture. -/
theorem capture_frameRest {ds : List U7} {s : State} (hopen : s.scBuf ≠ [])
    (hfits : s.scBuf.length + ds.length ≤ s.params.captureCapacity) :
    ∃ t, runInstrs (captureAll (frameRest ds)) s =
        .next (capturedResults (frameRest ds).length (s.scBuf.length + ds.length), t) ∧
      t.scBuf = s.scBuf ++ ds.map fieldByte := by
  induction ds using frameRest.induct generalizing s with
  | case1 =>
    refine ⟨_, runInstrs_cons (t := s) ((exec_captureStep_sysexEnd s).trans (by rw [if_neg hopen]; rfl)) rfl, ?_⟩
    exact (List.append_nil _).symm
  | case2 a => exact ⟨_, runInstrs_cons (openRun_of_fits hopen (bytes := [fieldByte a]) hfits _ _) rfl, rfl⟩
  | case3 a b =>
    exact ⟨_, runInstrs_cons (openRun_of_fits hopen (bytes := [fieldByte a, fieldByte b]) hfits _ _) rfl, rfl⟩
  | case4 a b c rest ih =>
    simp only [List.length_cons] at hfits
    have hcont := exec_sysexCont_of_fits hopen (by omega) a b c
    obtain ⟨t, hrest, hbuf⟩ := ih (s := (s.setScBuf (s.scBuf ++ [a, b, c].map fieldByte)).setOutput
      (some (.ok (.capture .pending)))) (by simp) (by simp; omega)
    refine ⟨t, (runInstrs_cons hcont hrest).trans ?_, by simpa using hbuf⟩
    have hlen : (s.scBuf ++ [a, b, c].map fieldByte).length + rest.length = s.scBuf.length + (rest.length + 3) := by
      simp; omega
    rw [frameRest, List.length_cons, capturedResults_succ (frameRest_length_pos rest), State.setOutput_scBuf,
      State.setScBuf_scBuf, hlen]
    rfl

/-- On an empty buffer no fragment after the first opens a run (R343 to R346). -/
theorem capture_frameRest_of_empty (ds : List U7) {s : State} (hempty : s.scBuf = []) :
    ∃ results t, runInstrs (captureAll (frameRest ds)) s = .next (results, t) ∧ t.scBuf = [] := by
  induction ds using frameRest.induct generalizing s with
  | case1 => exact ⟨_, _, runInstrs_cons (t := s) (exec_captureStep_sysexEnd s) rfl, hempty⟩
  | case2 a => exact ⟨_, _, runInstrs_cons (openRun_of_empty hempty [fieldByte a] _ _) rfl, hempty⟩
  | case3 a b => exact ⟨_, _, runInstrs_cons (openRun_of_empty hempty [fieldByte a, fieldByte b] _ _) rfl, hempty⟩
  | case4 a b c rest ih =>
    obtain ⟨results, t, hrest, hbuf⟩ := ih (s := s.setOutput (some (.err .spuriousSysexContinuation))) hempty
    exact ⟨_, t, runInstrs_cons (openRun_of_empty hempty [fieldByte a, fieldByte b, fieldByte c] _ _) hrest, hbuf⟩

/-- On an open buffer that does not hold the rest of the body, a fragment overflows and the rest opens no run. -/
theorem capture_frameRest_of_overflows {ds : List U7} {s : State} (hopen : s.scBuf ≠ [])
    (hle : s.scBuf.length ≤ s.params.captureCapacity)
    (hover : s.params.captureCapacity < s.scBuf.length + ds.length) :
    ∃ results t, runInstrs (captureAll (frameRest ds)) s = .next (results, t) ∧ .err .bufferOverflow ∈ results ∧
      t.scBuf = [] := by
  induction ds using frameRest.induct generalizing s with
  | case1 => exact absurd hle (Nat.not_le.mpr hover)
  | case2 a =>
    exact ⟨_, _, runInstrs_cons (openRun_of_overflows hopen (bytes := [fieldByte a]) hover _ _) rfl, .head _, rfl⟩
  | case3 a b =>
    exact ⟨_, _, runInstrs_cons (openRun_of_overflows hopen (bytes := [fieldByte a, fieldByte b]) hover _ _) rfl,
      .head _, rfl⟩
  | case4 a b c rest ih =>
    simp only [List.length_cons] at hover
    by_cases hthree : s.params.captureCapacity < s.scBuf.length + 3
    · have hcont := exec_sysexCont_of_overflows hopen hthree a b c
      obtain ⟨results, t, hrest, hbuf⟩ := capture_frameRest_of_empty rest
        (s := (s.setScBuf []).setOutput (some (.err .bufferOverflow))) rfl
      exact ⟨_, t, runInstrs_cons hcont hrest, .head _, hbuf⟩
    · have hcont := exec_sysexCont_of_fits hopen (Nat.not_lt.mp hthree) a b c
      obtain ⟨results, t, hrest, hmem, hbuf⟩ := ih (s := (s.setScBuf (s.scBuf ++ [a, b, c].map fieldByte)).setOutput
        (some (.ok (.capture .pending)))) (by simp) (by simp; omega) (by simp; omega)
      exact ⟨_, t, runInstrs_cons hcont hrest, .tail _ hmem, hbuf⟩

/-! ### A whole run -/

theorem exec_sysexBegin (a b : U7) (s : State) :
    exec (.captureStep (.sysexBegin a b)) s =
      .next (if s.params.captureCapacity < 2 then (s.setScBuf []).setOutput (some (.err .bufferOverflow))
        else (s.setScBuf [fieldByte a, fieldByte b]).setOutput (some (.ok (.capture .pending)))) :=
  captureAppend_cleared [fieldByte a, fieldByte b] (fun _ => .pending) s

theorem exec_sysexSingleByte (a : U7) (s : State) :
    exec (.captureStep (.sysexSingleByte a)) s =
      .next (if s.params.captureCapacity < 1 then (s.setScBuf []).setOutput (some (.err .bufferOverflow))
        else (s.setScBuf [fieldByte a]).setOutput (some (.ok (.capture (.captured 1))))) :=
  captureAppend_cleared [fieldByte a] (fun _ => .captured 1) s

/-- A body that fits is captured whole from any buffer, as the first fragment clears it (R342, R347, R348). -/
theorem capture_frameBody {ds : List U7} {s : State} (hfits : ds.length ≤ s.params.captureCapacity) :
    ∃ t, runInstrs (captureAll (frameBody ds)) s = .next (capturedResults (frameBody ds).length ds.length, t) ∧
      t.scBuf = ds.map fieldByte := by
  match ds with
  | [] => exact ⟨_, runInstrs_cons (t := s.setScBuf []) rfl rfl, rfl⟩
  | [a] =>
    have hone : ¬ s.params.captureCapacity < 1 := Nat.not_lt.mpr hfits
    have hsingle := exec_sysexSingleByte a s
    rw [if_neg hone] at hsingle
    exact ⟨_, runInstrs_cons hsingle rfl, rfl⟩
  | a :: b :: rest =>
    simp only [List.length_cons] at hfits
    have hbegin := exec_sysexBegin a b s
    rw [if_neg (by omega)] at hbegin
    obtain ⟨t, hrest, hbuf⟩ := capture_frameRest (ds := rest) (s := (s.setScBuf [fieldByte a, fieldByte b]).setOutput
      (some (.ok (.capture .pending)))) (by simp) (by simp; omega)
    refine ⟨t, (runInstrs_cons hbegin hrest).trans ?_, hbuf⟩
    have hlen : [fieldByte a, fieldByte b].length + rest.length = rest.length + 2 := Nat.add_comm _ _
    rw [frameBody, List.length_cons, capturedResults_succ (frameRest_length_pos rest), State.setOutput_scBuf,
      State.setScBuf_scBuf, hlen]
    rfl

/-- A body that does not fit overflows, and the buffer ends empty (R341). -/
theorem capture_frameBody_of_overflows {ds : List U7} {s : State} (hover : s.params.captureCapacity < ds.length) :
    ∃ results t, runInstrs (captureAll (frameBody ds)) s = .next (results, t) ∧ .err .bufferOverflow ∈ results ∧
      t.scBuf = [] := by
  match ds with
  | [] => exact absurd hover (Nat.not_lt_zero _)
  | [a] =>
    have hone : s.params.captureCapacity < 1 := hover
    have hsingle := exec_sysexSingleByte a s
    rw [if_pos hone] at hsingle
    exact ⟨_, _, runInstrs_cons hsingle rfl, .head _, rfl⟩
  | a :: b :: rest =>
    simp only [List.length_cons] at hover
    have hbegin := exec_sysexBegin a b s
    by_cases htwo : s.params.captureCapacity < 2
    · rw [if_pos htwo] at hbegin
      obtain ⟨results, t, hrest, hbuf⟩ := capture_frameRest_of_empty rest
        (s := (s.setScBuf []).setOutput (some (.err .bufferOverflow))) rfl
      exact ⟨_, t, runInstrs_cons hbegin hrest, .head _, hbuf⟩
    · rw [if_neg htwo] at hbegin
      obtain ⟨results, t, hrest, hmem, hbuf⟩ := capture_frameRest_of_overflows (ds := rest)
        (s := (s.setScBuf [fieldByte a, fieldByte b]).setOutput (some (.ok (.capture .pending)))) (by simp)
        (Nat.not_lt.mp htwo) (by simp; omega)
      exact ⟨_, t, runInstrs_cons hbegin hrest, .tail _ hmem, hbuf⟩

/-- A body of bytes below 0x80 is framed by the fields of its bytes. -/
theorem capture_framed {d : List Byte} (hd : ∀ b ∈ d, b.toNat < 0x80) {s : State}
    (hfits : d.length ≤ s.params.captureCapacity) :
    ∃ t, runInstrs (captureAll (framed d)) s = .next (capturedResults (framed d).length d.length, t) ∧ t.scBuf = d := by
  have hframe := capture_frameBody (ds := d.map bodyField) (s := s) (by rwa [List.length_map])
  rwa [map_fieldByte_map_bodyField hd, List.length_map, ← frame, frame_eq_framed] at hframe

/-- Settles O37: the framed body by its fields, whether it fits or not. -/
theorem captureRestoresTheBody : Obligations.CaptureRestoresTheBody := by
  refine fun d s hd => ⟨fun hfits => capture_framed hd hfits, fun hover => ?_⟩
  have hframe := capture_frameBody_of_overflows (ds := d.map bodyField) (s := s) (by rwa [List.length_map])
  rwa [← frame, frame_eq_framed] at hframe

end Sys2Proof.Machine
end

section
/-! The matcher as segmentation (spec/46_sysex_tokens.md R376 to R382): one token of the walk takes one segment off the
buffer; the walk is then the segments in order, and the captures are the program's. -/

open Sys2Proof.Stated

namespace Sys2Proof.Machine

/-- A segment a token matches has the token's width (R115). -/
theorem length_of_tokenMatches {t : Token} {segment : List Byte} (h : tokenMatches t segment) :
    segment.length = tokenWidth t := by
  cases t with
  | skip n => exact h
  | val b => exact congrArg List.length h
  | seq bs => exact congrArg List.length h
  | cap f =>
    cases f with
    | bytes w => exact h
    | other => exact h.elim

/-- The records of a program are those of its first token, then those of the rest from its width on (R382). -/
theorem expectedCaps_cons (o : Nat) (t : Token) (ts : List Token) :
    expectedCaps o (t :: ts) = expectedCaps o [t] ++ expectedCaps (o + tokenWidth t) ts := by
  cases t with
  | cap f => cases f <;> rfl
  | _ => rfl

/-! ### One token -/

/-- The buffer goes on with a segment the token matches. -/
def StartsWith (t : Token) (buf : List Byte) : Prop := ∃ segment rest, buf = segment ++ rest ∧ tokenMatches t segment

/-- Enough bytes are left exactly where there is a segment of that length (R377, R380). -/
theorem le_length_iff_exists_segment {n : Nat} {buf : List Byte} :
    n ≤ buf.length ↔ ∃ segment rest, buf = segment ++ rest ∧ segment.length = n := by
  constructor
  · exact fun h => ⟨buf.take n, buf.drop n, (List.take_append_drop n buf).symm, List.length_take_of_le h⟩
  · rintro ⟨segment, rest, rfl, rfl⟩
    simp

/-- The byte at the position is the literal (R378). -/
theorem getElem?_eq_some_iff_startsWith {pre buf : List Byte} {b : Byte} :
    (pre ++ buf)[pre.length]? = some b ↔ StartsWith (.val b) buf := by
  rw [List.getElem?_append_right (Nat.le_refl _), Nat.sub_self]
  constructor
  · intro h
    obtain ⟨rest, rfl⟩ := List.head?_eq_some_iff.mp (List.head?_eq_getElem? ▸ h)
    exact ⟨[b], rest, rfl, rfl⟩
  · rintro ⟨segment, rest, rfl, rfl⟩
    rfl

/-- The bytes from the position on are the literals (R379). -/
theorem take_eq_iff_startsWith {pre buf bs : List Byte} :
    pre.length + bs.length ≤ (pre ++ buf).length ∧ ((pre ++ buf).drop pre.length).take bs.length = bs ↔
      StartsWith (.seq bs) buf := by
  rw [List.drop_left]
  constructor
  · rintro ⟨-, h⟩
    obtain ⟨rest, hbuf⟩ := List.prefix_iff_eq_take.mpr h.symm
    exact ⟨bs, rest, hbuf.symm, rfl⟩
  · rintro ⟨segment, rest, rfl, rfl⟩
    simp

/-- One token of the walk: where the buffer goes on with a segment of the token, the walk moves past it and adds the
token's records, and elsewhere it fails (R377 to R380). -/
theorem matchToken_eq_some_iff {pre buf : List Byte} {t : Token} {caps : List CaptureRecord} {w : MatchState} :
    matchToken (pre ++ buf) t { pos := pre.length, caps } = some w ↔
      StartsWith t buf ∧ w = { pos := pre.length + tokenWidth t, caps := caps ++ expectedCaps pre.length [t] } := by
  have hshort : ∀ n, ¬ (pre ++ buf).length < pre.length + n ↔ n ≤ buf.length := fun n => by
    rw [List.length_append]
    omega
  cases t with
  | skip n =>
    simp only [matchToken, Option.ite_none_left_eq_some, hshort, Option.some.injEq, StartsWith, tokenMatches,
      ← le_length_iff_exists_segment, tokenWidth, expectedCaps, List.append_nil, eq_comm (a := w)]
  | val b =>
    simp only [matchToken, Option.ite_none_right_eq_some, getElem?_eq_some_iff_startsWith, Option.some.injEq,
      tokenWidth, expectedCaps, List.append_nil, eq_comm (a := w)]
  | seq bs =>
    simp only [matchToken, Option.ite_none_right_eq_some, take_eq_iff_startsWith, Option.some.injEq, tokenWidth,
      expectedCaps, List.append_nil, eq_comm (a := w)]
  | cap f =>
    cases f with
    | bytes n =>
      simp only [matchToken, Option.ite_none_left_eq_some, hshort, Option.some.injEq, StartsWith, tokenMatches,
        ← le_length_iff_exists_segment, tokenWidth, expectedCaps, eq_comm (a := w)]
    | other => simp [matchToken, StartsWith, tokenMatches]

/-! ### The whole program -/

/-- The rules' walk over the rest of a buffer succeeds exactly where the rest is the program's segments in order. -/
theorem walk_eq_some_iff {pre buf : List Byte} {caps found : List CaptureRecord} {program : List Token} :
    walk (pre ++ buf) pre.length caps program = some found ↔
      segmented program buf ∧ found = caps ++ expectedCaps pre.length program := by
  induction program generalizing pre buf caps with
  | nil =>
    have hend : pre.length = (pre ++ buf).length ↔ buf = [] := by simp
    simp only [walk, Option.ite_none_right_eq_some, hend, Option.some.injEq, segmented, expectedCaps, List.append_nil,
      eq_comm (a := found)]
  | cons t ts ih =>
    have hsegment : ∀ segment rest, tokenMatches t segment →
        (walk (pre ++ (segment ++ rest)) (pre.length + tokenWidth t) (caps ++ expectedCaps pre.length [t]) ts =
            some found ↔
          segmented ts rest ∧ found = caps ++ expectedCaps pre.length (t :: ts)) := fun segment rest hmatch => by
      rw [← List.append_assoc, ← length_of_tokenMatches hmatch, ← List.length_append, ih, List.length_append,
        length_of_tokenMatches hmatch, expectedCaps_cons pre.length t ts, List.append_assoc]
    rw [walk_cons, Option.bind_eq_some_iff]
    constructor
    · rintro ⟨w, hw, hrest⟩
      obtain ⟨⟨segment, rest, rfl, hmatch⟩, rfl⟩ := matchToken_eq_some_iff.mp hw
      obtain ⟨hseg, hfound⟩ := (hsegment segment rest hmatch).mp hrest
      exact ⟨⟨segment, rest, rfl, hmatch, hseg⟩, hfound⟩
    · rintro ⟨⟨segment, rest, rfl, hmatch, hseg⟩, hfound⟩
      exact ⟨_, matchToken_eq_some_iff.mpr ⟨⟨segment, rest, rfl, hmatch⟩, rfl⟩,
        (hsegment segment rest hmatch).mpr ⟨hseg, hfound⟩⟩

/-- MATCH returns records exactly where the walk over the whole buffer finds them (R376, R381). -/
theorem exec_matchProgram_records_iff {buf : List Byte} {program : List Token} {caps : List CaptureRecord} {s : State}
    (hwf : programWellFormed program = true) :
    exec (.matchProgram buf program) s = .next (s.setOutput (some (.ok (.records caps)))) ↔
      walk buf 0 [] program = some caps := by
  rw [exec_matchProgram_of_wellFormed hwf, conclude_matchBuffer]
  constructor
  · intro h
    have hout := congrArg State.output (Host.Outcome.next.inj h)
    cases hwalk : walk buf 0 [] program <;> rw [hwalk] at hout <;> cases hout
    rfl
  · intro h
    rw [h]

/-- Settles O43: the walk from the start of the buffer. -/
theorem matchIsExactSegmentation : Obligations.MatchIsExactSegmentation := by
  intro buf program caps s hwf
  rw [exec_matchProgram_records_iff hwf]
  exact walk_eq_some_iff (pre := []) (caps := [])

/-- The bytes a well-formed token generates are a segment it matches (R371, R382). -/
theorem tokenMatches_generated {t : Token} (h : tokenWellFormed t = true) : tokenMatches t (generated t) := by
  cases t with
  | skip n => exact List.length_replicate
  | val b => rfl
  | seq bs => rfl
  | cap f =>
    cases f with
    | bytes w => exact List.length_replicate
    | other => cases h

/-- A well-formed program's flat bytes are its segments in order. -/
theorem segmented_flatMap_generated {program : List Token} (h : programWellFormed program = true) :
    segmented program (program.flatMap generated) := by
  induction program with
  | nil => rfl
  | cons t ts ih =>
    rw [programWellFormed, List.all_cons, Bool.and_eq_true] at h
    obtain ⟨ht, hts⟩ := h
    exact ⟨generated t, ts.flatMap generated, rfl, tokenMatches_generated ht, ih hts⟩

/-- Settles O44: the generated bytes are segments of the program. -/
theorem programsMatchTheirOwnBytes : Obligations.ProgramsMatchTheirOwnBytes := fun _ s hwf =>
  (matchIsExactSegmentation _ _ _ s hwf).mpr ⟨segmented_flatMap_generated hwf, rfl⟩

end Sys2Proof.Machine
end

section
/-! Generator, codec, parser and capture unit together (spec/46_sysex_tokens.md R383): the run of the generator over its
messages, and that each of the other units reads what it yields. -/

open Sys2Proof.Stated

namespace Sys2Proof.Machine

/-- GEN_NEXT over the messages that are left yields their packets and finishes (R374). -/
theorem runInstrs_genNext (ms : List Message) {s : State} (hleft : s.tgMsgs.drop s.tgK = ms) :
    ∃ t, runInstrs (List.replicate ms.length .genNext) s =
        .next (ms.map fun m => .ok (.optPacket (some (packetOfMessage s.tgCable m))), t) ∧
      t.tgMsgs = s.tgMsgs ∧ t.tgK = s.tgK + ms.length := by
  induction ms generalizing s with
  | nil => exact ⟨s, rfl, rfl, rfl⟩
  | cons m ms ih =>
    have hm : s.tgMsgs[s.tgK]? = some m := by
      rw [← Nat.add_zero s.tgK, ← List.getElem?_drop, hleft]
      rfl
    have hnext : s.tgMsgs.drop (s.tgK + 1) = ms := by
      rw [← List.tail_drop, hleft]
      rfl
    obtain ⟨t, hrest, hmsgs, hk⟩ := ih (s := (s.setTgK (s.tgK + 1)).setOutput
      (some (.ok (.optPacket (some (packetOfMessage s.tgCable m)))))) hnext
    refine ⟨t, runInstrs_cons (exec_genNext_of_some hm) hrest, hmsgs, hk.trans ?_⟩
    rw [State.setOutput_tgK, State.setTgK_tgK, List.length_cons]
    omega

/-- The packets of results that each yield one. -/
theorem packetsOf_map (f : Message → Packet) (ms : List Message) :
    packetsOf (ms.map fun m => .ok (.optPacket (some (f m)))) = ms.map f := by
  induction ms with
  | nil => rfl
  | cons m ms ih => rw [List.map_cons, packetsOf, ih, List.map_cons]

/-- GEN_START and one GEN_NEXT per message yield the packets of the framed program (R373, R374). -/
theorem runInstrs_generator {program : List Token} (hwf : programWellFormed program = true) (cable : U4) (s : State) :
    ∃ results t,
      runInstrs (.genStart program cable :: List.replicate (framed (program.flatMap generated)).length .genNext) s =
        .next (results, t) ∧
      packetsOf results = (framed (program.flatMap generated)).map (packetOfMessage cable) ∧
      t.tgK = t.tgMsgs.length := by
  rw [flatMap_generated, ← frame_eq_framed]
  obtain ⟨t, hrun, hmsgs, hk⟩ := runInstrs_genNext (frame (flatten program))
    (s := (((s.setTgMsgs (frame (flatten program))).setTgCable cable).setTgK 0).setOutput (some (.ok .unit))) rfl
  refine ⟨_, t, runInstrs_cons (exec_genStart_of_wellFormed hwf cable s) hrun, packetsOf_map _ _, ?_⟩
  rw [hk, hmsgs]
  exact Nat.zero_add _

/-- DECODE reads the messages of a list of encoded packets back, in any state (R310). -/
theorem runInstrs_decodePacket (cable : U4) (ms : List Message) (s : State) :
    ∃ t, runInstrs ((ms.map (packetOfMessage cable)).map .decodePacket) s =
      .next (ms.map fun m => .ok (.message m), t) := by
  induction ms generalizing s with
  | nil => exact ⟨s, rfl⟩
  | cons m ms ih =>
    obtain ⟨t, hrest⟩ := ih (s.setOutput (some (.ok (.message m))))
    exact ⟨t, runInstrs_cons (exec_decodePacket_packetOfMessage cable m s) hrest⟩

/-- Settles O45: each unit on the framed body of the program. -/
theorem generatorParserAndCaptureAgree : Obligations.GeneratorParserAndCaptureAgree := by
  intro program cable s hwf
  have hbody : ∀ b ∈ program.flatMap generated, b.toNat < 0x80 := flatMap_generated program ▸ flatten_body hwf
  refine ⟨?_, fun hfits => ?_⟩
  · obtain ⟨results, t, hrun, hpackets, hk⟩ := runInstrs_generator hwf cable s
    refine ⟨results, t, hrun, hpackets, hk, fun r => hpackets ▸ runInstrs_decodePacket cable _ r, fun hcable => ?_⟩
    obtain ⟨parsed, u, hparse, -, hparsed, -, -⟩ := parses_framed hbody s.params s.pu s rfl rfl
    exact ⟨parsed, u, hparse, by rw [hparsed, hpackets, hcable]⟩
  · obtain ⟨v, hcapture, hbuf⟩ := capture_framed hbody hfits
    exact ⟨_, v, hcapture, List.getLast?_concat, hbuf⟩

end Sys2Proof.Machine
end
